-- ==== Sys2Proof/Word.lean ====
section
/-! DEFINITION. The two word widths of the CORE (00_scope.md R7): bytes and 16-bit words, both unsigned
bit vectors with bit 0 least significant (R10, R11). -/

namespace Sys2Proof

/-- An 8-bit value: a general register, a byte of memory, an opcode byte (R7). -/
abbrev Byte := BitVec 8

/-- A 16-bit value: SP, PC, a register pair, an address (R7). Arithmetic on it wraps modulo 65536. -/
abbrev Word := BitVec 16

end Sys2Proof
end

