-- ==== Sys2Proof/WellFormed.lean ====
section
/-! DEFINITION. Which Instr values are instructions of the machine. Every operand is typed at the width of
its field, so the one check left is the prefix. -/

namespace Sys2Proof

/-- The CB prefix "is not an instruction on its own" (45_system.md R405); every other constructor is an
instruction at every operand (30_encoding.md R195: "There are no other unassigned, reserved, hint or custom
encodings"). -/
def Instr.wellFormed : Instr → Bool
  | .prefixCb _ => false
  | _ => true

end Sys2Proof
end

