-- ==== Sys2Proof/Decode.lean ====
section
/-! DEFINITION. The decoder (30_encoding.md R180-R196), total on any bytes, and the encoder; the bit-field,
byte-order and sign-extension helpers they and the machine use. Every first byte and every CB second byte
is assigned (R195), so the one thing a decoder can refuse is an instruction that is cut short. -/

namespace Sys2Proof

/-! ## Bytes, words and fields -/

/-- `hi ++ lo` (00_scope.md R11). -/
def joinBytes (hi lo : Byte) : Word := hi ++ lo

/-- Bits 7..0 of a word (00_scope.md R10). -/
def lowByte (w : Word) : Byte := w.extractLsb' 0 8

/-- Bits 15..8 of a word (00_scope.md R10). -/
def highByte (w : Word) : Byte := w.extractLsb' 8 8

/-- `sext_16` (00_scope.md R11). -/
def signExtendByte (e : Byte) : Word := e.signExtend 16

/-- `zext_16` (00_scope.md R11). -/
def zeroExtendByte (n : Byte) : Word := n.setWidth 16

/-- The value of a 3-bit field. -/
def Octal.ofBits (v : BitVec 3) : Octal :=
  match v.toNat with
  | 0 => .o0
  | 1 => .o1
  | 2 => .o2
  | 3 => .o3
  | 4 => .o4
  | 5 => .o5
  | 6 => .o6
  | _ => .o7

/-- The number a 3-bit field holds. -/
def Octal.value : Octal → Nat
  | .o0 => 0
  | .o1 => 1
  | .o2 => 2
  | .o3 => 3
  | .o4 => 4
  | .o5 => 5
  | .o6 => 6
  | .o7 => 7

/-- Field x, bits 7..6 (R181). -/
def fieldX (op : Byte) : BitVec 2 := op.extractLsb' 6 2

/-- Field y, bits 5..3 (R181). -/
def fieldY (op : Byte) : Octal := Octal.ofBits (op.extractLsb' 3 3)

/-- Field z, bits 2..0 (R181). -/
def fieldZ (op : Byte) : Octal := Octal.ofBits (op.extractLsb' 0 3)

/-- The register code r (R184). -/
def Operand.ofCode : Octal → Operand
  | .o0 => .reg .b
  | .o1 => .reg .c
  | .o2 => .reg .d
  | .o3 => .reg .e
  | .o4 => .reg .h
  | .o5 => .reg .l
  | .o6 => .memHl
  | .o7 => .reg .a

/-- The ALU operation y (R194, x = 2). -/
def AluOp.ofCode : Octal → AluOp
  | .o0 => .add
  | .o1 => .adc
  | .o2 => .sub
  | .o3 => .sbc
  | .o4 => .and
  | .o5 => .xor
  | .o6 => .or
  | .o7 => .cp

/-- The rotate or shift y (R182). -/
def RotOp.ofCode : Octal → RotOp
  | .o0 => .rlc
  | .o1 => .rrc
  | .o2 => .rl
  | .o3 => .rr
  | .o4 => .sla
  | .o5 => .sra
  | .o6 => .swap
  | .o7 => .srl

/-! ## The families: the constructor for each value of a family's fields -/

/-- LD r,r' (R194: x = 1, y and z not 6). -/
def Instr.ldRegReg : Reg → Reg → Instr
  | .b, .b => .ldBB
  | .b, .c => .ldBC
  | .b, .d => .ldBD
  | .b, .e => .ldBE
  | .b, .h => .ldBH
  | .b, .l => .ldBL
  | .b, .a => .ldBA
  | .c, .b => .ldCB
  | .c, .c => .ldCC
  | .c, .d => .ldCD
  | .c, .e => .ldCE
  | .c, .h => .ldCH
  | .c, .l => .ldCL
  | .c, .a => .ldCA
  | .d, .b => .ldDB
  | .d, .c => .ldDC
  | .d, .d => .ldDD
  | .d, .e => .ldDE
  | .d, .h => .ldDH
  | .d, .l => .ldDL
  | .d, .a => .ldDA
  | .e, .b => .ldEB
  | .e, .c => .ldEC
  | .e, .d => .ldED
  | .e, .e => .ldEE
  | .e, .h => .ldEH
  | .e, .l => .ldEL
  | .e, .a => .ldEA
  | .h, .b => .ldHB
  | .h, .c => .ldHC
  | .h, .d => .ldHD
  | .h, .e => .ldHE
  | .h, .h => .ldHH
  | .h, .l => .ldHL
  | .h, .a => .ldHA
  | .l, .b => .ldLB
  | .l, .c => .ldLC
  | .l, .d => .ldLD
  | .l, .e => .ldLE
  | .l, .h => .ldLH
  | .l, .l => .ldLL
  | .l, .a => .ldLA
  | .a, .b => .ldAB
  | .a, .c => .ldAC
  | .a, .d => .ldAD
  | .a, .e => .ldAE
  | .a, .h => .ldAH
  | .a, .l => .ldAL
  | .a, .a => .ldAA

/-- LD r,d8 (R194: x = 0, z = 6, y not 6). -/
def Instr.ldRegD8 : Reg → Byte → Instr
  | .b, n => .ldBD8 n
  | .c, n => .ldCD8 n
  | .d, n => .ldDD8 n
  | .e, n => .ldED8 n
  | .h, n => .ldHD8 n
  | .l, n => .ldLD8 n
  | .a, n => .ldAD8 n

/-- LD r,(HL) (R194: x = 1, z = 6, y not 6). -/
def Instr.ldRegMemHl : Reg → Instr
  | .b => .ldBMemHl
  | .c => .ldCMemHl
  | .d => .ldDMemHl
  | .e => .ldEMemHl
  | .h => .ldHMemHl
  | .l => .ldLMemHl
  | .a => .ldAMemHl

/-- LD (HL),r (R194: x = 1, y = 6, z not 6). -/
def Instr.ldMemHlReg : Reg → Instr
  | .b => .ldMemHlB
  | .c => .ldMemHlC
  | .d => .ldMemHlD
  | .e => .ldMemHlE
  | .h => .ldMemHlH
  | .l => .ldMemHlL
  | .a => .ldMemHlA

/-- ALU A,r(z) (R194: x = 2). -/
def Instr.aluOperand : AluOp → Operand → Instr
  | .add, .reg .b => .addAB
  | .add, .reg .c => .addAC
  | .add, .reg .d => .addAD
  | .add, .reg .e => .addAE
  | .add, .reg .h => .addAH
  | .add, .reg .l => .addAL
  | .add, .memHl => .addAMemHl
  | .add, .reg .a => .addAA
  | .adc, .reg .b => .adcAB
  | .adc, .reg .c => .adcAC
  | .adc, .reg .d => .adcAD
  | .adc, .reg .e => .adcAE
  | .adc, .reg .h => .adcAH
  | .adc, .reg .l => .adcAL
  | .adc, .memHl => .adcAMemHl
  | .adc, .reg .a => .adcAA
  | .sub, .reg .b => .subB
  | .sub, .reg .c => .subC
  | .sub, .reg .d => .subD
  | .sub, .reg .e => .subE
  | .sub, .reg .h => .subH
  | .sub, .reg .l => .subL
  | .sub, .memHl => .subMemHl
  | .sub, .reg .a => .subA
  | .sbc, .reg .b => .sbcAB
  | .sbc, .reg .c => .sbcAC
  | .sbc, .reg .d => .sbcAD
  | .sbc, .reg .e => .sbcAE
  | .sbc, .reg .h => .sbcAH
  | .sbc, .reg .l => .sbcAL
  | .sbc, .memHl => .sbcAMemHl
  | .sbc, .reg .a => .sbcAA
  | .and, .reg .b => .andB
  | .and, .reg .c => .andC
  | .and, .reg .d => .andD
  | .and, .reg .e => .andE
  | .and, .reg .h => .andH
  | .and, .reg .l => .andL
  | .and, .memHl => .andMemHl
  | .and, .reg .a => .andA
  | .xor, .reg .b => .xorB
  | .xor, .reg .c => .xorC
  | .xor, .reg .d => .xorD
  | .xor, .reg .e => .xorE
  | .xor, .reg .h => .xorH
  | .xor, .reg .l => .xorL
  | .xor, .memHl => .xorMemHl
  | .xor, .reg .a => .xorA
  | .or, .reg .b => .orB
  | .or, .reg .c => .orC
  | .or, .reg .d => .orD
  | .or, .reg .e => .orE
  | .or, .reg .h => .orH
  | .or, .reg .l => .orL
  | .or, .memHl => .orMemHl
  | .or, .reg .a => .orA
  | .cp, .reg .b => .cpB
  | .cp, .reg .c => .cpC
  | .cp, .reg .d => .cpD
  | .cp, .reg .e => .cpE
  | .cp, .reg .h => .cpH
  | .cp, .reg .l => .cpL
  | .cp, .memHl => .cpMemHl
  | .cp, .reg .a => .cpA

/-- ALU A,d8 (R194: x = 3, z = 6). -/
def Instr.aluD8 : AluOp → Byte → Instr
  | .add, n => .addAD8 n
  | .adc, n => .adcAD8 n
  | .sub, n => .subD8 n
  | .sbc, n => .sbcAD8 n
  | .and, n => .andD8 n
  | .xor, n => .xorD8 n
  | .or, n => .orD8 n
  | .cp, n => .cpD8 n

/-- INC r and INC (HL) (R194: x = 0, z = 4). -/
def Instr.incOperand : Operand → Instr
  | .reg .b => .incB
  | .reg .c => .incC
  | .reg .d => .incD
  | .reg .e => .incE
  | .reg .h => .incH
  | .reg .l => .incL
  | .memHl => .incMemHl
  | .reg .a => .incA

/-- DEC r and DEC (HL) (R194: x = 0, z = 5). -/
def Instr.decOperand : Operand → Instr
  | .reg .b => .decB
  | .reg .c => .decC
  | .reg .d => .decD
  | .reg .e => .decE
  | .reg .h => .decH
  | .reg .l => .decL
  | .memHl => .decMemHl
  | .reg .a => .decA

/-- LD rr,d16 (R194: x = 0, z = 1, q = 0). -/
def Instr.ldPairD16 : Pair → Word → Instr
  | .bc, v => .ldBcD16 v
  | .de, v => .ldDeD16 v
  | .hl, v => .ldHlD16 v
  | .sp, v => .ldSpD16 v

/-- ADD HL,rr (R194: x = 0, z = 1, q = 1). -/
def Instr.addHlPair : Pair → Instr
  | .bc => .addHlBc
  | .de => .addHlDe
  | .hl => .addHlHl
  | .sp => .addHlSp

/-- INC rr (R194: x = 0, z = 3, q = 0). -/
def Instr.incPair : Pair → Instr
  | .bc => .incBc
  | .de => .incDe
  | .hl => .incHl
  | .sp => .incSp

/-- DEC rr (R194: x = 0, z = 3, q = 1). -/
def Instr.decPair : Pair → Instr
  | .bc => .decBc
  | .de => .decDe
  | .hl => .decHl
  | .sp => .decSp

/-- PUSH rr (R194: x = 3, z = 5, q = 0). -/
def Instr.push : StackPair → Instr
  | .bc => .pushBc
  | .de => .pushDe
  | .hl => .pushHl
  | .af => .pushAf

/-- POP rr (R194: x = 3, z = 1, q = 0). -/
def Instr.pop : StackPair → Instr
  | .bc => .popBc
  | .de => .popDe
  | .hl => .popHl
  | .af => .popAf

/-- JP cc,a16 (R194: x = 3, z = 2, y < 4). -/
def Instr.jpCond : Cond → Word → Instr
  | .nz, addr => .jpNzA16 addr
  | .z, addr => .jpZA16 addr
  | .nc, addr => .jpNcA16 addr
  | .c, addr => .jpCA16 addr

/-- JR cc,e8 (R194: x = 0, z = 0, y = 4..7). -/
def Instr.jrCond : Cond → Byte → Instr
  | .nz, e => .jrNzE8 e
  | .z, e => .jrZE8 e
  | .nc, e => .jrNcE8 e
  | .c, e => .jrCE8 e

/-- CALL cc,a16 (R194: x = 3, z = 4, y < 4). -/
def Instr.callCond : Cond → Word → Instr
  | .nz, addr => .callNzA16 addr
  | .z, addr => .callZA16 addr
  | .nc, addr => .callNcA16 addr
  | .c, addr => .callCA16 addr

/-- RET cc (R194: x = 3, z = 0, y < 4). -/
def Instr.retCond : Cond → Instr
  | .nz => .retNz
  | .z => .retZ
  | .nc => .retNc
  | .c => .retC

/-- RST y*8 (R194: x = 3, z = 7). -/
def Instr.rst : Octal → Instr
  | .o0 => .rst00
  | .o1 => .rst08
  | .o2 => .rst10
  | .o3 => .rst18
  | .o4 => .rst20
  | .o5 => .rst28
  | .o6 => .rst30
  | .o7 => .rst38

/-- The rotates and shifts of the CB group 0 (R182). -/
def Instr.rotOperand : RotOp → Operand → Instr
  | .rlc, .reg .b => .rlcB
  | .rlc, .reg .c => .rlcC
  | .rlc, .reg .d => .rlcD
  | .rlc, .reg .e => .rlcE
  | .rlc, .reg .h => .rlcH
  | .rlc, .reg .l => .rlcL
  | .rlc, .memHl => .rlcMemHl
  | .rlc, .reg .a => .rlcA
  | .rrc, .reg .b => .rrcB
  | .rrc, .reg .c => .rrcC
  | .rrc, .reg .d => .rrcD
  | .rrc, .reg .e => .rrcE
  | .rrc, .reg .h => .rrcH
  | .rrc, .reg .l => .rrcL
  | .rrc, .memHl => .rrcMemHl
  | .rrc, .reg .a => .rrcA
  | .rl, .reg .b => .rlB
  | .rl, .reg .c => .rlC
  | .rl, .reg .d => .rlD
  | .rl, .reg .e => .rlE
  | .rl, .reg .h => .rlH
  | .rl, .reg .l => .rlL
  | .rl, .memHl => .rlMemHl
  | .rl, .reg .a => .rlA
  | .rr, .reg .b => .rrB
  | .rr, .reg .c => .rrC
  | .rr, .reg .d => .rrD
  | .rr, .reg .e => .rrE
  | .rr, .reg .h => .rrH
  | .rr, .reg .l => .rrL
  | .rr, .memHl => .rrMemHl
  | .rr, .reg .a => .rrA
  | .sla, .reg .b => .slaB
  | .sla, .reg .c => .slaC
  | .sla, .reg .d => .slaD
  | .sla, .reg .e => .slaE
  | .sla, .reg .h => .slaH
  | .sla, .reg .l => .slaL
  | .sla, .memHl => .slaMemHl
  | .sla, .reg .a => .slaA
  | .sra, .reg .b => .sraB
  | .sra, .reg .c => .sraC
  | .sra, .reg .d => .sraD
  | .sra, .reg .e => .sraE
  | .sra, .reg .h => .sraH
  | .sra, .reg .l => .sraL
  | .sra, .memHl => .sraMemHl
  | .sra, .reg .a => .sraA
  | .swap, .reg .b => .swapB
  | .swap, .reg .c => .swapC
  | .swap, .reg .d => .swapD
  | .swap, .reg .e => .swapE
  | .swap, .reg .h => .swapH
  | .swap, .reg .l => .swapL
  | .swap, .memHl => .swapMemHl
  | .swap, .reg .a => .swapA
  | .srl, .reg .b => .srlB
  | .srl, .reg .c => .srlC
  | .srl, .reg .d => .srlD
  | .srl, .reg .e => .srlE
  | .srl, .reg .h => .srlH
  | .srl, .reg .l => .srlL
  | .srl, .memHl => .srlMemHl
  | .srl, .reg .a => .srlA

/-- BIT b,r, the CB group 1 (R182). -/
def Instr.bit : Octal → Operand → Instr
  | .o0, .reg .b => .bit0B
  | .o0, .reg .c => .bit0C
  | .o0, .reg .d => .bit0D
  | .o0, .reg .e => .bit0E
  | .o0, .reg .h => .bit0H
  | .o0, .reg .l => .bit0L
  | .o0, .memHl => .bit0MemHl
  | .o0, .reg .a => .bit0A
  | .o1, .reg .b => .bit1B
  | .o1, .reg .c => .bit1C
  | .o1, .reg .d => .bit1D
  | .o1, .reg .e => .bit1E
  | .o1, .reg .h => .bit1H
  | .o1, .reg .l => .bit1L
  | .o1, .memHl => .bit1MemHl
  | .o1, .reg .a => .bit1A
  | .o2, .reg .b => .bit2B
  | .o2, .reg .c => .bit2C
  | .o2, .reg .d => .bit2D
  | .o2, .reg .e => .bit2E
  | .o2, .reg .h => .bit2H
  | .o2, .reg .l => .bit2L
  | .o2, .memHl => .bit2MemHl
  | .o2, .reg .a => .bit2A
  | .o3, .reg .b => .bit3B
  | .o3, .reg .c => .bit3C
  | .o3, .reg .d => .bit3D
  | .o3, .reg .e => .bit3E
  | .o3, .reg .h => .bit3H
  | .o3, .reg .l => .bit3L
  | .o3, .memHl => .bit3MemHl
  | .o3, .reg .a => .bit3A
  | .o4, .reg .b => .bit4B
  | .o4, .reg .c => .bit4C
  | .o4, .reg .d => .bit4D
  | .o4, .reg .e => .bit4E
  | .o4, .reg .h => .bit4H
  | .o4, .reg .l => .bit4L
  | .o4, .memHl => .bit4MemHl
  | .o4, .reg .a => .bit4A
  | .o5, .reg .b => .bit5B
  | .o5, .reg .c => .bit5C
  | .o5, .reg .d => .bit5D
  | .o5, .reg .e => .bit5E
  | .o5, .reg .h => .bit5H
  | .o5, .reg .l => .bit5L
  | .o5, .memHl => .bit5MemHl
  | .o5, .reg .a => .bit5A
  | .o6, .reg .b => .bit6B
  | .o6, .reg .c => .bit6C
  | .o6, .reg .d => .bit6D
  | .o6, .reg .e => .bit6E
  | .o6, .reg .h => .bit6H
  | .o6, .reg .l => .bit6L
  | .o6, .memHl => .bit6MemHl
  | .o6, .reg .a => .bit6A
  | .o7, .reg .b => .bit7B
  | .o7, .reg .c => .bit7C
  | .o7, .reg .d => .bit7D
  | .o7, .reg .e => .bit7E
  | .o7, .reg .h => .bit7H
  | .o7, .reg .l => .bit7L
  | .o7, .memHl => .bit7MemHl
  | .o7, .reg .a => .bit7A

/-- RES b,r, the CB group 2 (R182). -/
def Instr.res : Octal → Operand → Instr
  | .o0, .reg .b => .res0B
  | .o0, .reg .c => .res0C
  | .o0, .reg .d => .res0D
  | .o0, .reg .e => .res0E
  | .o0, .reg .h => .res0H
  | .o0, .reg .l => .res0L
  | .o0, .memHl => .res0MemHl
  | .o0, .reg .a => .res0A
  | .o1, .reg .b => .res1B
  | .o1, .reg .c => .res1C
  | .o1, .reg .d => .res1D
  | .o1, .reg .e => .res1E
  | .o1, .reg .h => .res1H
  | .o1, .reg .l => .res1L
  | .o1, .memHl => .res1MemHl
  | .o1, .reg .a => .res1A
  | .o2, .reg .b => .res2B
  | .o2, .reg .c => .res2C
  | .o2, .reg .d => .res2D
  | .o2, .reg .e => .res2E
  | .o2, .reg .h => .res2H
  | .o2, .reg .l => .res2L
  | .o2, .memHl => .res2MemHl
  | .o2, .reg .a => .res2A
  | .o3, .reg .b => .res3B
  | .o3, .reg .c => .res3C
  | .o3, .reg .d => .res3D
  | .o3, .reg .e => .res3E
  | .o3, .reg .h => .res3H
  | .o3, .reg .l => .res3L
  | .o3, .memHl => .res3MemHl
  | .o3, .reg .a => .res3A
  | .o4, .reg .b => .res4B
  | .o4, .reg .c => .res4C
  | .o4, .reg .d => .res4D
  | .o4, .reg .e => .res4E
  | .o4, .reg .h => .res4H
  | .o4, .reg .l => .res4L
  | .o4, .memHl => .res4MemHl
  | .o4, .reg .a => .res4A
  | .o5, .reg .b => .res5B
  | .o5, .reg .c => .res5C
  | .o5, .reg .d => .res5D
  | .o5, .reg .e => .res5E
  | .o5, .reg .h => .res5H
  | .o5, .reg .l => .res5L
  | .o5, .memHl => .res5MemHl
  | .o5, .reg .a => .res5A
  | .o6, .reg .b => .res6B
  | .o6, .reg .c => .res6C
  | .o6, .reg .d => .res6D
  | .o6, .reg .e => .res6E
  | .o6, .reg .h => .res6H
  | .o6, .reg .l => .res6L
  | .o6, .memHl => .res6MemHl
  | .o6, .reg .a => .res6A
  | .o7, .reg .b => .res7B
  | .o7, .reg .c => .res7C
  | .o7, .reg .d => .res7D
  | .o7, .reg .e => .res7E
  | .o7, .reg .h => .res7H
  | .o7, .reg .l => .res7L
  | .o7, .memHl => .res7MemHl
  | .o7, .reg .a => .res7A

/-- SET b,r, the CB group 3 (R182). -/
def Instr.set : Octal → Operand → Instr
  | .o0, .reg .b => .set0B
  | .o0, .reg .c => .set0C
  | .o0, .reg .d => .set0D
  | .o0, .reg .e => .set0E
  | .o0, .reg .h => .set0H
  | .o0, .reg .l => .set0L
  | .o0, .memHl => .set0MemHl
  | .o0, .reg .a => .set0A
  | .o1, .reg .b => .set1B
  | .o1, .reg .c => .set1C
  | .o1, .reg .d => .set1D
  | .o1, .reg .e => .set1E
  | .o1, .reg .h => .set1H
  | .o1, .reg .l => .set1L
  | .o1, .memHl => .set1MemHl
  | .o1, .reg .a => .set1A
  | .o2, .reg .b => .set2B
  | .o2, .reg .c => .set2C
  | .o2, .reg .d => .set2D
  | .o2, .reg .e => .set2E
  | .o2, .reg .h => .set2H
  | .o2, .reg .l => .set2L
  | .o2, .memHl => .set2MemHl
  | .o2, .reg .a => .set2A
  | .o3, .reg .b => .set3B
  | .o3, .reg .c => .set3C
  | .o3, .reg .d => .set3D
  | .o3, .reg .e => .set3E
  | .o3, .reg .h => .set3H
  | .o3, .reg .l => .set3L
  | .o3, .memHl => .set3MemHl
  | .o3, .reg .a => .set3A
  | .o4, .reg .b => .set4B
  | .o4, .reg .c => .set4C
  | .o4, .reg .d => .set4D
  | .o4, .reg .e => .set4E
  | .o4, .reg .h => .set4H
  | .o4, .reg .l => .set4L
  | .o4, .memHl => .set4MemHl
  | .o4, .reg .a => .set4A
  | .o5, .reg .b => .set5B
  | .o5, .reg .c => .set5C
  | .o5, .reg .d => .set5D
  | .o5, .reg .e => .set5E
  | .o5, .reg .h => .set5H
  | .o5, .reg .l => .set5L
  | .o5, .memHl => .set5MemHl
  | .o5, .reg .a => .set5A
  | .o6, .reg .b => .set6B
  | .o6, .reg .c => .set6C
  | .o6, .reg .d => .set6D
  | .o6, .reg .e => .set6E
  | .o6, .reg .h => .set6H
  | .o6, .reg .l => .set6L
  | .o6, .memHl => .set6MemHl
  | .o6, .reg .a => .set6A
  | .o7, .reg .b => .set7B
  | .o7, .reg .c => .set7C
  | .o7, .reg .d => .set7D
  | .o7, .reg .e => .set7E
  | .o7, .reg .h => .set7H
  | .o7, .reg .l => .set7L
  | .o7, .memHl => .set7MemHl
  | .o7, .reg .a => .set7A
/-! ## The decoder -/

/-- What a first byte asks for: nothing more, one immediate byte, an immediate word (low byte first), or the
second byte of an extended instruction (R180). -/
inductive Shape where
  | done (i : Instr)
  | imm8 (f : Byte → Instr)
  | imm16 (f : Word → Instr)
  | extended

/-- The load, move and HALT quadrant x = 1 (R194). -/
def decodeX1 (y z : Octal) : Shape :=
  match Operand.ofCode y, Operand.ofCode z with
  | .reg dst, .reg src => .done (Instr.ldRegReg dst src)
  | .reg dst, .memHl => .done (Instr.ldRegMemHl dst)
  | .memHl, .reg src => .done (Instr.ldMemHlReg src)
  | .memHl, .memHl => .done .halt

/-- The quadrant x = 0 (R194). -/
def decodeX0 (y z : Octal) : Shape :=
  match z with
  | .o0 =>
    match y with
    | .o0 => .done .nop
    | .o1 => .imm16 .ldMemA16Sp
    | .o2 => .imm8 .stop
    | .o3 => .imm8 .jrE8
    | .o4 => .imm8 (Instr.jrCond .nz)
    | .o5 => .imm8 (Instr.jrCond .z)
    | .o6 => .imm8 (Instr.jrCond .nc)
    | .o7 => .imm8 (Instr.jrCond .c)
  | .o1 =>
    match y with
    | .o0 => .imm16 (Instr.ldPairD16 .bc)
    | .o1 => .done (Instr.addHlPair .bc)
    | .o2 => .imm16 (Instr.ldPairD16 .de)
    | .o3 => .done (Instr.addHlPair .de)
    | .o4 => .imm16 (Instr.ldPairD16 .hl)
    | .o5 => .done (Instr.addHlPair .hl)
    | .o6 => .imm16 (Instr.ldPairD16 .sp)
    | .o7 => .done (Instr.addHlPair .sp)
  | .o2 =>
    match y with
    | .o0 => .done .ldMemBcA
    | .o1 => .done .ldAMemBc
    | .o2 => .done .ldMemDeA
    | .o3 => .done .ldAMemDe
    | .o4 => .done .ldMemHlIncA
    | .o5 => .done .ldAMemHlInc
    | .o6 => .done .ldMemHlDecA
    | .o7 => .done .ldAMemHlDec
  | .o3 =>
    match y with
    | .o0 => .done (Instr.incPair .bc)
    | .o1 => .done (Instr.decPair .bc)
    | .o2 => .done (Instr.incPair .de)
    | .o3 => .done (Instr.decPair .de)
    | .o4 => .done (Instr.incPair .hl)
    | .o5 => .done (Instr.decPair .hl)
    | .o6 => .done (Instr.incPair .sp)
    | .o7 => .done (Instr.decPair .sp)
  | .o4 => .done (Instr.incOperand (Operand.ofCode y))
  | .o5 => .done (Instr.decOperand (Operand.ofCode y))
  | .o6 =>
    match Operand.ofCode y with
    | .reg dst => .imm8 (Instr.ldRegD8 dst)
    | .memHl => .imm8 .ldMemHlD8
  | .o7 =>
    match y with
    | .o0 => .done .rlca
    | .o1 => .done .rrca
    | .o2 => .done .rla
    | .o3 => .done .rra
    | .o4 => .done .daa
    | .o5 => .done .cpl
    | .o6 => .done .scf
    | .o7 => .done .ccf

/-- The quadrant x = 3 (R194), with the illegal bytes of R195. -/
def decodeX3 (y z : Octal) : Shape :=
  match z with
  | .o0 =>
    match y with
    | .o0 => .done (Instr.retCond .nz)
    | .o1 => .done (Instr.retCond .z)
    | .o2 => .done (Instr.retCond .nc)
    | .o3 => .done (Instr.retCond .c)
    | .o4 => .imm8 .ldhMemA8A
    | .o5 => .imm8 .addSpE8
    | .o6 => .imm8 .ldhAMemA8
    | .o7 => .imm8 .ldHlSpE8
  | .o1 =>
    match y with
    | .o0 => .done (Instr.pop .bc)
    | .o1 => .done .ret
    | .o2 => .done (Instr.pop .de)
    | .o3 => .done .reti
    | .o4 => .done (Instr.pop .hl)
    | .o5 => .done .jpHl
    | .o6 => .done (Instr.pop .af)
    | .o7 => .done .ldSpHl
  | .o2 =>
    match y with
    | .o0 => .imm16 (Instr.jpCond .nz)
    | .o1 => .imm16 (Instr.jpCond .z)
    | .o2 => .imm16 (Instr.jpCond .nc)
    | .o3 => .imm16 (Instr.jpCond .c)
    | .o4 => .done .ldMemCA
    | .o5 => .imm16 .ldMemA16A
    | .o6 => .done .ldAMemC
    | .o7 => .imm16 .ldAMemA16
  | .o3 =>
    match y with
    | .o0 => .imm16 .jpA16
    | .o1 => .extended
    | .o2 => .done .illegalD3
    | .o3 => .done .illegalDB
    | .o4 => .done .illegalE3
    | .o5 => .done .illegalEB
    | .o6 => .done .di
    | .o7 => .done .ei
  | .o4 =>
    match y with
    | .o0 => .imm16 (Instr.callCond .nz)
    | .o1 => .imm16 (Instr.callCond .z)
    | .o2 => .imm16 (Instr.callCond .nc)
    | .o3 => .imm16 (Instr.callCond .c)
    | .o4 => .done .illegalE4
    | .o5 => .done .illegalEC
    | .o6 => .done .illegalF4
    | .o7 => .done .illegalFC
  | .o5 =>
    match y with
    | .o0 => .done (Instr.push .bc)
    | .o1 => .imm16 .callA16
    | .o2 => .done (Instr.push .de)
    | .o3 => .done .illegalDD
    | .o4 => .done (Instr.push .hl)
    | .o5 => .done .illegalED
    | .o6 => .done (Instr.push .af)
    | .o7 => .done .illegalFD
  | .o6 => .imm8 (Instr.aluD8 (AluOp.ofCode y))
  | .o7 => .done (Instr.rst y)

/-- `decode` of one opcode byte (R191, R192) by its fields (R181, R194). -/
def decodeOp (op : Byte) : Shape :=
  match (fieldX op).toNat with
  | 0 => decodeX0 (fieldY op) (fieldZ op)
  | 1 => decodeX1 (fieldY op) (fieldZ op)
  | 2 => .done (Instr.aluOperand (AluOp.ofCode (fieldY op)) (Operand.ofCode (fieldZ op)))
  | _ => decodeX3 (fieldY op) (fieldZ op)

/-- `decode_extended` of 0xCB00 OR cb (R182, R193). -/
def decodeExtended (cb : Byte) : Instr :=
  match (fieldX cb).toNat with
  | 0 => Instr.rotOperand (RotOp.ofCode (fieldY cb)) (Operand.ofCode (fieldZ cb))
  | 1 => Instr.bit (fieldY cb) (Operand.ofCode (fieldZ cb))
  | 2 => Instr.res (fieldY cb) (Operand.ofCode (fieldZ cb))
  | _ => Instr.set (fieldY cb) (Operand.ofCode (fieldZ cb))

/-- Why bytes are no instruction. -/
inductive DecodeReject where
  /-- The bytes end inside the instruction. -/
  | cutShort
deriving DecidableEq, Repr

/-- The instruction at the front of a list of bytes, and the bytes after it (R180, R190, R196). -/
def decode : List Byte → Except DecodeReject (Instr × List Byte)
  | [] => .error .cutShort
  | op :: rest =>
    match decodeOp op with
    | .done i => .ok (i, rest)
    | .imm8 f =>
      match rest with
      | n :: rest' => .ok (f n, rest')
      | [] => .error .cutShort
    | .imm16 f =>
      match rest with
      | lo :: hi :: rest' => .ok (f (joinBytes hi lo), rest')
      | _ => .error .cutShort
    | .extended =>
      match rest with
      | cb :: rest' => .ok (decodeExtended cb, rest')
      | [] => .error .cutShort

/-! ## The encoder -/

/-- The bytes of an instruction, first byte first: the `encoding` column of opcode_table.json, immediates
low byte first (R187). -/
def encode : Instr → List Byte
  | .nop => [0x00#8]
  | .ldBcD16 v => [0x01#8, lowByte v, highByte v]
  | .ldMemBcA => [0x02#8]
  | .incBc => [0x03#8]
  | .incB => [0x04#8]
  | .decB => [0x05#8]
  | .ldBD8 n => [0x06#8, n]
  | .rlca => [0x07#8]
  | .ldMemA16Sp addr => [0x08#8, lowByte addr, highByte addr]
  | .addHlBc => [0x09#8]
  | .ldAMemBc => [0x0A#8]
  | .decBc => [0x0B#8]
  | .incC => [0x0C#8]
  | .decC => [0x0D#8]
  | .ldCD8 n => [0x0E#8, n]
  | .rrca => [0x0F#8]
  | .stop ignored => [0x10#8, ignored]
  | .ldDeD16 v => [0x11#8, lowByte v, highByte v]
  | .ldMemDeA => [0x12#8]
  | .incDe => [0x13#8]
  | .incD => [0x14#8]
  | .decD => [0x15#8]
  | .ldDD8 n => [0x16#8, n]
  | .rla => [0x17#8]
  | .jrE8 e => [0x18#8, e]
  | .addHlDe => [0x19#8]
  | .ldAMemDe => [0x1A#8]
  | .decDe => [0x1B#8]
  | .incE => [0x1C#8]
  | .decE => [0x1D#8]
  | .ldED8 n => [0x1E#8, n]
  | .rra => [0x1F#8]
  | .jrNzE8 e => [0x20#8, e]
  | .ldHlD16 v => [0x21#8, lowByte v, highByte v]
  | .ldMemHlIncA => [0x22#8]
  | .incHl => [0x23#8]
  | .incH => [0x24#8]
  | .decH => [0x25#8]
  | .ldHD8 n => [0x26#8, n]
  | .daa => [0x27#8]
  | .jrZE8 e => [0x28#8, e]
  | .addHlHl => [0x29#8]
  | .ldAMemHlInc => [0x2A#8]
  | .decHl => [0x2B#8]
  | .incL => [0x2C#8]
  | .decL => [0x2D#8]
  | .ldLD8 n => [0x2E#8, n]
  | .cpl => [0x2F#8]
  | .jrNcE8 e => [0x30#8, e]
  | .ldSpD16 v => [0x31#8, lowByte v, highByte v]
  | .ldMemHlDecA => [0x32#8]
  | .incSp => [0x33#8]
  | .incMemHl => [0x34#8]
  | .decMemHl => [0x35#8]
  | .ldMemHlD8 n => [0x36#8, n]
  | .scf => [0x37#8]
  | .jrCE8 e => [0x38#8, e]
  | .addHlSp => [0x39#8]
  | .ldAMemHlDec => [0x3A#8]
  | .decSp => [0x3B#8]
  | .incA => [0x3C#8]
  | .decA => [0x3D#8]
  | .ldAD8 n => [0x3E#8, n]
  | .ccf => [0x3F#8]
  | .ldBB => [0x40#8]
  | .ldBC => [0x41#8]
  | .ldBD => [0x42#8]
  | .ldBE => [0x43#8]
  | .ldBH => [0x44#8]
  | .ldBL => [0x45#8]
  | .ldBMemHl => [0x46#8]
  | .ldBA => [0x47#8]
  | .ldCB => [0x48#8]
  | .ldCC => [0x49#8]
  | .ldCD => [0x4A#8]
  | .ldCE => [0x4B#8]
  | .ldCH => [0x4C#8]
  | .ldCL => [0x4D#8]
  | .ldCMemHl => [0x4E#8]
  | .ldCA => [0x4F#8]
  | .ldDB => [0x50#8]
  | .ldDC => [0x51#8]
  | .ldDD => [0x52#8]
  | .ldDE => [0x53#8]
  | .ldDH => [0x54#8]
  | .ldDL => [0x55#8]
  | .ldDMemHl => [0x56#8]
  | .ldDA => [0x57#8]
  | .ldEB => [0x58#8]
  | .ldEC => [0x59#8]
  | .ldED => [0x5A#8]
  | .ldEE => [0x5B#8]
  | .ldEH => [0x5C#8]
  | .ldEL => [0x5D#8]
  | .ldEMemHl => [0x5E#8]
  | .ldEA => [0x5F#8]
  | .ldHB => [0x60#8]
  | .ldHC => [0x61#8]
  | .ldHD => [0x62#8]
  | .ldHE => [0x63#8]
  | .ldHH => [0x64#8]
  | .ldHL => [0x65#8]
  | .ldHMemHl => [0x66#8]
  | .ldHA => [0x67#8]
  | .ldLB => [0x68#8]
  | .ldLC => [0x69#8]
  | .ldLD => [0x6A#8]
  | .ldLE => [0x6B#8]
  | .ldLH => [0x6C#8]
  | .ldLL => [0x6D#8]
  | .ldLMemHl => [0x6E#8]
  | .ldLA => [0x6F#8]
  | .ldMemHlB => [0x70#8]
  | .ldMemHlC => [0x71#8]
  | .ldMemHlD => [0x72#8]
  | .ldMemHlE => [0x73#8]
  | .ldMemHlH => [0x74#8]
  | .ldMemHlL => [0x75#8]
  | .halt => [0x76#8]
  | .ldMemHlA => [0x77#8]
  | .ldAB => [0x78#8]
  | .ldAC => [0x79#8]
  | .ldAD => [0x7A#8]
  | .ldAE => [0x7B#8]
  | .ldAH => [0x7C#8]
  | .ldAL => [0x7D#8]
  | .ldAMemHl => [0x7E#8]
  | .ldAA => [0x7F#8]
  | .addAB => [0x80#8]
  | .addAC => [0x81#8]
  | .addAD => [0x82#8]
  | .addAE => [0x83#8]
  | .addAH => [0x84#8]
  | .addAL => [0x85#8]
  | .addAMemHl => [0x86#8]
  | .addAA => [0x87#8]
  | .adcAB => [0x88#8]
  | .adcAC => [0x89#8]
  | .adcAD => [0x8A#8]
  | .adcAE => [0x8B#8]
  | .adcAH => [0x8C#8]
  | .adcAL => [0x8D#8]
  | .adcAMemHl => [0x8E#8]
  | .adcAA => [0x8F#8]
  | .subB => [0x90#8]
  | .subC => [0x91#8]
  | .subD => [0x92#8]
  | .subE => [0x93#8]
  | .subH => [0x94#8]
  | .subL => [0x95#8]
  | .subMemHl => [0x96#8]
  | .subA => [0x97#8]
  | .sbcAB => [0x98#8]
  | .sbcAC => [0x99#8]
  | .sbcAD => [0x9A#8]
  | .sbcAE => [0x9B#8]
  | .sbcAH => [0x9C#8]
  | .sbcAL => [0x9D#8]
  | .sbcAMemHl => [0x9E#8]
  | .sbcAA => [0x9F#8]
  | .andB => [0xA0#8]
  | .andC => [0xA1#8]
  | .andD => [0xA2#8]
  | .andE => [0xA3#8]
  | .andH => [0xA4#8]
  | .andL => [0xA5#8]
  | .andMemHl => [0xA6#8]
  | .andA => [0xA7#8]
  | .xorB => [0xA8#8]
  | .xorC => [0xA9#8]
  | .xorD => [0xAA#8]
  | .xorE => [0xAB#8]
  | .xorH => [0xAC#8]
  | .xorL => [0xAD#8]
  | .xorMemHl => [0xAE#8]
  | .xorA => [0xAF#8]
  | .orB => [0xB0#8]
  | .orC => [0xB1#8]
  | .orD => [0xB2#8]
  | .orE => [0xB3#8]
  | .orH => [0xB4#8]
  | .orL => [0xB5#8]
  | .orMemHl => [0xB6#8]
  | .orA => [0xB7#8]
  | .cpB => [0xB8#8]
  | .cpC => [0xB9#8]
  | .cpD => [0xBA#8]
  | .cpE => [0xBB#8]
  | .cpH => [0xBC#8]
  | .cpL => [0xBD#8]
  | .cpMemHl => [0xBE#8]
  | .cpA => [0xBF#8]
  | .retNz => [0xC0#8]
  | .popBc => [0xC1#8]
  | .jpNzA16 addr => [0xC2#8, lowByte addr, highByte addr]
  | .jpA16 addr => [0xC3#8, lowByte addr, highByte addr]
  | .callNzA16 addr => [0xC4#8, lowByte addr, highByte addr]
  | .pushBc => [0xC5#8]
  | .addAD8 n => [0xC6#8, n]
  | .rst00 => [0xC7#8]
  | .retZ => [0xC8#8]
  | .ret => [0xC9#8]
  | .jpZA16 addr => [0xCA#8, lowByte addr, highByte addr]
  | .prefixCb cb => [0xCB#8, cb]
  | .callZA16 addr => [0xCC#8, lowByte addr, highByte addr]
  | .callA16 addr => [0xCD#8, lowByte addr, highByte addr]
  | .adcAD8 n => [0xCE#8, n]
  | .rst08 => [0xCF#8]
  | .retNc => [0xD0#8]
  | .popDe => [0xD1#8]
  | .jpNcA16 addr => [0xD2#8, lowByte addr, highByte addr]
  | .illegalD3 => [0xD3#8]
  | .callNcA16 addr => [0xD4#8, lowByte addr, highByte addr]
  | .pushDe => [0xD5#8]
  | .subD8 n => [0xD6#8, n]
  | .rst10 => [0xD7#8]
  | .retC => [0xD8#8]
  | .reti => [0xD9#8]
  | .jpCA16 addr => [0xDA#8, lowByte addr, highByte addr]
  | .illegalDB => [0xDB#8]
  | .callCA16 addr => [0xDC#8, lowByte addr, highByte addr]
  | .illegalDD => [0xDD#8]
  | .sbcAD8 n => [0xDE#8, n]
  | .rst18 => [0xDF#8]
  | .ldhMemA8A n => [0xE0#8, n]
  | .popHl => [0xE1#8]
  | .ldMemCA => [0xE2#8]
  | .illegalE3 => [0xE3#8]
  | .illegalE4 => [0xE4#8]
  | .pushHl => [0xE5#8]
  | .andD8 n => [0xE6#8, n]
  | .rst20 => [0xE7#8]
  | .addSpE8 e => [0xE8#8, e]
  | .jpHl => [0xE9#8]
  | .ldMemA16A addr => [0xEA#8, lowByte addr, highByte addr]
  | .illegalEB => [0xEB#8]
  | .illegalEC => [0xEC#8]
  | .illegalED => [0xED#8]
  | .xorD8 n => [0xEE#8, n]
  | .rst28 => [0xEF#8]
  | .ldhAMemA8 n => [0xF0#8, n]
  | .popAf => [0xF1#8]
  | .ldAMemC => [0xF2#8]
  | .di => [0xF3#8]
  | .illegalF4 => [0xF4#8]
  | .pushAf => [0xF5#8]
  | .orD8 n => [0xF6#8, n]
  | .rst30 => [0xF7#8]
  | .ldHlSpE8 e => [0xF8#8, e]
  | .ldSpHl => [0xF9#8]
  | .ldAMemA16 addr => [0xFA#8, lowByte addr, highByte addr]
  | .ei => [0xFB#8]
  | .illegalFC => [0xFC#8]
  | .illegalFD => [0xFD#8]
  | .cpD8 n => [0xFE#8, n]
  | .rst38 => [0xFF#8]
  | .rlcB => [0xCB#8, 0x00#8]
  | .rlcC => [0xCB#8, 0x01#8]
  | .rlcD => [0xCB#8, 0x02#8]
  | .rlcE => [0xCB#8, 0x03#8]
  | .rlcH => [0xCB#8, 0x04#8]
  | .rlcL => [0xCB#8, 0x05#8]
  | .rlcMemHl => [0xCB#8, 0x06#8]
  | .rlcA => [0xCB#8, 0x07#8]
  | .rrcB => [0xCB#8, 0x08#8]
  | .rrcC => [0xCB#8, 0x09#8]
  | .rrcD => [0xCB#8, 0x0A#8]
  | .rrcE => [0xCB#8, 0x0B#8]
  | .rrcH => [0xCB#8, 0x0C#8]
  | .rrcL => [0xCB#8, 0x0D#8]
  | .rrcMemHl => [0xCB#8, 0x0E#8]
  | .rrcA => [0xCB#8, 0x0F#8]
  | .rlB => [0xCB#8, 0x10#8]
  | .rlC => [0xCB#8, 0x11#8]
  | .rlD => [0xCB#8, 0x12#8]
  | .rlE => [0xCB#8, 0x13#8]
  | .rlH => [0xCB#8, 0x14#8]
  | .rlL => [0xCB#8, 0x15#8]
  | .rlMemHl => [0xCB#8, 0x16#8]
  | .rlA => [0xCB#8, 0x17#8]
  | .rrB => [0xCB#8, 0x18#8]
  | .rrC => [0xCB#8, 0x19#8]
  | .rrD => [0xCB#8, 0x1A#8]
  | .rrE => [0xCB#8, 0x1B#8]
  | .rrH => [0xCB#8, 0x1C#8]
  | .rrL => [0xCB#8, 0x1D#8]
  | .rrMemHl => [0xCB#8, 0x1E#8]
  | .rrA => [0xCB#8, 0x1F#8]
  | .slaB => [0xCB#8, 0x20#8]
  | .slaC => [0xCB#8, 0x21#8]
  | .slaD => [0xCB#8, 0x22#8]
  | .slaE => [0xCB#8, 0x23#8]
  | .slaH => [0xCB#8, 0x24#8]
  | .slaL => [0xCB#8, 0x25#8]
  | .slaMemHl => [0xCB#8, 0x26#8]
  | .slaA => [0xCB#8, 0x27#8]
  | .sraB => [0xCB#8, 0x28#8]
  | .sraC => [0xCB#8, 0x29#8]
  | .sraD => [0xCB#8, 0x2A#8]
  | .sraE => [0xCB#8, 0x2B#8]
  | .sraH => [0xCB#8, 0x2C#8]
  | .sraL => [0xCB#8, 0x2D#8]
  | .sraMemHl => [0xCB#8, 0x2E#8]
  | .sraA => [0xCB#8, 0x2F#8]
  | .swapB => [0xCB#8, 0x30#8]
  | .swapC => [0xCB#8, 0x31#8]
  | .swapD => [0xCB#8, 0x32#8]
  | .swapE => [0xCB#8, 0x33#8]
  | .swapH => [0xCB#8, 0x34#8]
  | .swapL => [0xCB#8, 0x35#8]
  | .swapMemHl => [0xCB#8, 0x36#8]
  | .swapA => [0xCB#8, 0x37#8]
  | .srlB => [0xCB#8, 0x38#8]
  | .srlC => [0xCB#8, 0x39#8]
  | .srlD => [0xCB#8, 0x3A#8]
  | .srlE => [0xCB#8, 0x3B#8]
  | .srlH => [0xCB#8, 0x3C#8]
  | .srlL => [0xCB#8, 0x3D#8]
  | .srlMemHl => [0xCB#8, 0x3E#8]
  | .srlA => [0xCB#8, 0x3F#8]
  | .bit0B => [0xCB#8, 0x40#8]
  | .bit0C => [0xCB#8, 0x41#8]
  | .bit0D => [0xCB#8, 0x42#8]
  | .bit0E => [0xCB#8, 0x43#8]
  | .bit0H => [0xCB#8, 0x44#8]
  | .bit0L => [0xCB#8, 0x45#8]
  | .bit0MemHl => [0xCB#8, 0x46#8]
  | .bit0A => [0xCB#8, 0x47#8]
  | .bit1B => [0xCB#8, 0x48#8]
  | .bit1C => [0xCB#8, 0x49#8]
  | .bit1D => [0xCB#8, 0x4A#8]
  | .bit1E => [0xCB#8, 0x4B#8]
  | .bit1H => [0xCB#8, 0x4C#8]
  | .bit1L => [0xCB#8, 0x4D#8]
  | .bit1MemHl => [0xCB#8, 0x4E#8]
  | .bit1A => [0xCB#8, 0x4F#8]
  | .bit2B => [0xCB#8, 0x50#8]
  | .bit2C => [0xCB#8, 0x51#8]
  | .bit2D => [0xCB#8, 0x52#8]
  | .bit2E => [0xCB#8, 0x53#8]
  | .bit2H => [0xCB#8, 0x54#8]
  | .bit2L => [0xCB#8, 0x55#8]
  | .bit2MemHl => [0xCB#8, 0x56#8]
  | .bit2A => [0xCB#8, 0x57#8]
  | .bit3B => [0xCB#8, 0x58#8]
  | .bit3C => [0xCB#8, 0x59#8]
  | .bit3D => [0xCB#8, 0x5A#8]
  | .bit3E => [0xCB#8, 0x5B#8]
  | .bit3H => [0xCB#8, 0x5C#8]
  | .bit3L => [0xCB#8, 0x5D#8]
  | .bit3MemHl => [0xCB#8, 0x5E#8]
  | .bit3A => [0xCB#8, 0x5F#8]
  | .bit4B => [0xCB#8, 0x60#8]
  | .bit4C => [0xCB#8, 0x61#8]
  | .bit4D => [0xCB#8, 0x62#8]
  | .bit4E => [0xCB#8, 0x63#8]
  | .bit4H => [0xCB#8, 0x64#8]
  | .bit4L => [0xCB#8, 0x65#8]
  | .bit4MemHl => [0xCB#8, 0x66#8]
  | .bit4A => [0xCB#8, 0x67#8]
  | .bit5B => [0xCB#8, 0x68#8]
  | .bit5C => [0xCB#8, 0x69#8]
  | .bit5D => [0xCB#8, 0x6A#8]
  | .bit5E => [0xCB#8, 0x6B#8]
  | .bit5H => [0xCB#8, 0x6C#8]
  | .bit5L => [0xCB#8, 0x6D#8]
  | .bit5MemHl => [0xCB#8, 0x6E#8]
  | .bit5A => [0xCB#8, 0x6F#8]
  | .bit6B => [0xCB#8, 0x70#8]
  | .bit6C => [0xCB#8, 0x71#8]
  | .bit6D => [0xCB#8, 0x72#8]
  | .bit6E => [0xCB#8, 0x73#8]
  | .bit6H => [0xCB#8, 0x74#8]
  | .bit6L => [0xCB#8, 0x75#8]
  | .bit6MemHl => [0xCB#8, 0x76#8]
  | .bit6A => [0xCB#8, 0x77#8]
  | .bit7B => [0xCB#8, 0x78#8]
  | .bit7C => [0xCB#8, 0x79#8]
  | .bit7D => [0xCB#8, 0x7A#8]
  | .bit7E => [0xCB#8, 0x7B#8]
  | .bit7H => [0xCB#8, 0x7C#8]
  | .bit7L => [0xCB#8, 0x7D#8]
  | .bit7MemHl => [0xCB#8, 0x7E#8]
  | .bit7A => [0xCB#8, 0x7F#8]
  | .res0B => [0xCB#8, 0x80#8]
  | .res0C => [0xCB#8, 0x81#8]
  | .res0D => [0xCB#8, 0x82#8]
  | .res0E => [0xCB#8, 0x83#8]
  | .res0H => [0xCB#8, 0x84#8]
  | .res0L => [0xCB#8, 0x85#8]
  | .res0MemHl => [0xCB#8, 0x86#8]
  | .res0A => [0xCB#8, 0x87#8]
  | .res1B => [0xCB#8, 0x88#8]
  | .res1C => [0xCB#8, 0x89#8]
  | .res1D => [0xCB#8, 0x8A#8]
  | .res1E => [0xCB#8, 0x8B#8]
  | .res1H => [0xCB#8, 0x8C#8]
  | .res1L => [0xCB#8, 0x8D#8]
  | .res1MemHl => [0xCB#8, 0x8E#8]
  | .res1A => [0xCB#8, 0x8F#8]
  | .res2B => [0xCB#8, 0x90#8]
  | .res2C => [0xCB#8, 0x91#8]
  | .res2D => [0xCB#8, 0x92#8]
  | .res2E => [0xCB#8, 0x93#8]
  | .res2H => [0xCB#8, 0x94#8]
  | .res2L => [0xCB#8, 0x95#8]
  | .res2MemHl => [0xCB#8, 0x96#8]
  | .res2A => [0xCB#8, 0x97#8]
  | .res3B => [0xCB#8, 0x98#8]
  | .res3C => [0xCB#8, 0x99#8]
  | .res3D => [0xCB#8, 0x9A#8]
  | .res3E => [0xCB#8, 0x9B#8]
  | .res3H => [0xCB#8, 0x9C#8]
  | .res3L => [0xCB#8, 0x9D#8]
  | .res3MemHl => [0xCB#8, 0x9E#8]
  | .res3A => [0xCB#8, 0x9F#8]
  | .res4B => [0xCB#8, 0xA0#8]
  | .res4C => [0xCB#8, 0xA1#8]
  | .res4D => [0xCB#8, 0xA2#8]
  | .res4E => [0xCB#8, 0xA3#8]
  | .res4H => [0xCB#8, 0xA4#8]
  | .res4L => [0xCB#8, 0xA5#8]
  | .res4MemHl => [0xCB#8, 0xA6#8]
  | .res4A => [0xCB#8, 0xA7#8]
  | .res5B => [0xCB#8, 0xA8#8]
  | .res5C => [0xCB#8, 0xA9#8]
  | .res5D => [0xCB#8, 0xAA#8]
  | .res5E => [0xCB#8, 0xAB#8]
  | .res5H => [0xCB#8, 0xAC#8]
  | .res5L => [0xCB#8, 0xAD#8]
  | .res5MemHl => [0xCB#8, 0xAE#8]
  | .res5A => [0xCB#8, 0xAF#8]
  | .res6B => [0xCB#8, 0xB0#8]
  | .res6C => [0xCB#8, 0xB1#8]
  | .res6D => [0xCB#8, 0xB2#8]
  | .res6E => [0xCB#8, 0xB3#8]
  | .res6H => [0xCB#8, 0xB4#8]
  | .res6L => [0xCB#8, 0xB5#8]
  | .res6MemHl => [0xCB#8, 0xB6#8]
  | .res6A => [0xCB#8, 0xB7#8]
  | .res7B => [0xCB#8, 0xB8#8]
  | .res7C => [0xCB#8, 0xB9#8]
  | .res7D => [0xCB#8, 0xBA#8]
  | .res7E => [0xCB#8, 0xBB#8]
  | .res7H => [0xCB#8, 0xBC#8]
  | .res7L => [0xCB#8, 0xBD#8]
  | .res7MemHl => [0xCB#8, 0xBE#8]
  | .res7A => [0xCB#8, 0xBF#8]
  | .set0B => [0xCB#8, 0xC0#8]
  | .set0C => [0xCB#8, 0xC1#8]
  | .set0D => [0xCB#8, 0xC2#8]
  | .set0E => [0xCB#8, 0xC3#8]
  | .set0H => [0xCB#8, 0xC4#8]
  | .set0L => [0xCB#8, 0xC5#8]
  | .set0MemHl => [0xCB#8, 0xC6#8]
  | .set0A => [0xCB#8, 0xC7#8]
  | .set1B => [0xCB#8, 0xC8#8]
  | .set1C => [0xCB#8, 0xC9#8]
  | .set1D => [0xCB#8, 0xCA#8]
  | .set1E => [0xCB#8, 0xCB#8]
  | .set1H => [0xCB#8, 0xCC#8]
  | .set1L => [0xCB#8, 0xCD#8]
  | .set1MemHl => [0xCB#8, 0xCE#8]
  | .set1A => [0xCB#8, 0xCF#8]
  | .set2B => [0xCB#8, 0xD0#8]
  | .set2C => [0xCB#8, 0xD1#8]
  | .set2D => [0xCB#8, 0xD2#8]
  | .set2E => [0xCB#8, 0xD3#8]
  | .set2H => [0xCB#8, 0xD4#8]
  | .set2L => [0xCB#8, 0xD5#8]
  | .set2MemHl => [0xCB#8, 0xD6#8]
  | .set2A => [0xCB#8, 0xD7#8]
  | .set3B => [0xCB#8, 0xD8#8]
  | .set3C => [0xCB#8, 0xD9#8]
  | .set3D => [0xCB#8, 0xDA#8]
  | .set3E => [0xCB#8, 0xDB#8]
  | .set3H => [0xCB#8, 0xDC#8]
  | .set3L => [0xCB#8, 0xDD#8]
  | .set3MemHl => [0xCB#8, 0xDE#8]
  | .set3A => [0xCB#8, 0xDF#8]
  | .set4B => [0xCB#8, 0xE0#8]
  | .set4C => [0xCB#8, 0xE1#8]
  | .set4D => [0xCB#8, 0xE2#8]
  | .set4E => [0xCB#8, 0xE3#8]
  | .set4H => [0xCB#8, 0xE4#8]
  | .set4L => [0xCB#8, 0xE5#8]
  | .set4MemHl => [0xCB#8, 0xE6#8]
  | .set4A => [0xCB#8, 0xE7#8]
  | .set5B => [0xCB#8, 0xE8#8]
  | .set5C => [0xCB#8, 0xE9#8]
  | .set5D => [0xCB#8, 0xEA#8]
  | .set5E => [0xCB#8, 0xEB#8]
  | .set5H => [0xCB#8, 0xEC#8]
  | .set5L => [0xCB#8, 0xED#8]
  | .set5MemHl => [0xCB#8, 0xEE#8]
  | .set5A => [0xCB#8, 0xEF#8]
  | .set6B => [0xCB#8, 0xF0#8]
  | .set6C => [0xCB#8, 0xF1#8]
  | .set6D => [0xCB#8, 0xF2#8]
  | .set6E => [0xCB#8, 0xF3#8]
  | .set6H => [0xCB#8, 0xF4#8]
  | .set6L => [0xCB#8, 0xF5#8]
  | .set6MemHl => [0xCB#8, 0xF6#8]
  | .set6A => [0xCB#8, 0xF7#8]
  | .set7B => [0xCB#8, 0xF8#8]
  | .set7C => [0xCB#8, 0xF9#8]
  | .set7D => [0xCB#8, 0xFA#8]
  | .set7E => [0xCB#8, 0xFB#8]
  | .set7H => [0xCB#8, 0xFC#8]
  | .set7L => [0xCB#8, 0xFD#8]
  | .set7MemHl => [0xCB#8, 0xFE#8]
  | .set7A => [0xCB#8, 0xFF#8]

/-- The length in bytes (R180). -/
def Instr.length (i : Instr) : Nat := (encode i).length

/-- The opcode a FAULT record reports for the instruction (10_state.md R42): its first byte, or 0xCB00 OR cb
for an extended instruction. -/
def Instr.opcode (i : Instr) : Opcode :=
  match encode i with
  | [] => .plain 0x00#8
  | op :: rest => if op = 0xCB#8 then .extended (rest.headD 0x00#8) else .plain op

/-! ## The opcode table's words -/

/-- The bytes, first at the lowest address, of an instruction whose bits are `w` as opcode_table.json numbers
them, followed by zero bytes up to the longest instruction. A one-byte row is its byte. The table numbers a
two-byte row 0xCB00 OR cb (R191), its FIRST byte in bits 15..8; any other word of two or three bytes is read
with its first byte in bits 7..0 (log entry 10). -/
def tableBytes (nbits w : Nat) : List Byte :=
  let v := w % 2 ^ nbits
  if nbits = 16 ∧ v / 0x100 = 0xCB then [0xCB#8, BitVec.ofNat 8 v, 0x00#8]
  else [BitVec.ofNat 8 v, BitVec.ofNat 8 (v / 0x100), BitVec.ofNat 8 (v / 0x10000)]

/-- The instruction the decoder reads from a word of opcode_table.json. -/
def decodeTableWord (nbits w : Nat) : Option Instr :=
  match decode (tableBytes nbits w) with
  | .ok (i, _) => some i
  | .error _ => none

end Sys2Proof
end

