-- ==== Sys2Proof/Config.lean ====
section
/-! DEFINITION. What an implementation fixes: the parameters of 00_scope.md R8, and the free values a
forwarded read is answered with (20_memory.md R104). The modes stand in State (field cfg), so that every
value of every mode is modelled; the other parameters are the argument of the construction. -/

namespace Sys2Proof

/-- ILLEGAL_OPCODE_MODE (R8, 45_system.md R406): what an unassigned opcode byte does. -/
inductive IllegalOpcodeMode where
  | nop
  | lock
deriving DecidableEq, Repr

/-- ADD16_Z_MODE (R8, 42_alu16.md R310): what ADD HL,rr does to the Zero flag. -/
inductive Add16ZMode where
  | result
  | preserve
deriving DecidableEq, Repr

/-- ACC_ROT_Z_MODE (R8, 43_rotate_shift_bit.md R332): what RLCA, RRCA, RLA, RRA do to the Zero flag. -/
inductive AccRotZMode where
  | result
  | clear
deriving DecidableEq, Repr

/-- OTHER_MBC_MODE (R8, 20_memory.md R140): how the MBC2, MBC3 and MBC5 classes behave. -/
inductive OtherMbcMode where
  | refuse
  | reference
deriving DecidableEq, Repr

/-- The four modes of R8, with the defaults of R8. No step changes them. -/
structure Config where
  illegalOpcode : IllegalOpcodeMode := .nop
  add16Z : Add16ZMode := .result
  accRotZ : AccRotZMode := .result
  otherMbc : OtherMbcMode := .refuse
deriving DecidableEq, Repr

/-- The parameters of a construction other than the cartridge image (R8), with R8's defaults. The
contents the spec leaves OPEN (BOOT_IMAGE, INIT_*) are given as the bytes from index 0 on; an index past
the end of a list holds 0x00, and bytes past the array's size are ignored (DESIGN CHOICE, safe: every
content can be given; log entry 21). -/
structure Params where
  resetPc : Word := 0x0000#16
  resetSp : Word := 0xFFFE#16
  modes : Config := {}
  bootImage : List Byte := []
  initWram : List Byte := []
  initVram : List Byte := []
  initOam : List Byte := []
  initCram : List Byte := []
deriving DecidableEq, Repr

/-- FREE VALUE. The collaborator's answer to the forwarded read that is the `n`-th forwarded access of
the run, where State.ioAnswers fixes none: "any value, under no law" (20_memory.md R104). It has no body,
so nothing can be proved about it (log entry 3). -/
opaque Config.ioAnswer : Nat → Byte

end Sys2Proof
end

