-- ==== Sys2Proof/Machine/State.lean ====
section
/-! DEFINITION. The state of the CORE as plain data: every piece of state 10_state.md gives (R30-R56), the
bank registers of every cartridge variant (R50, 20_memory.md R141-R143), the configuration fixed at
construction (R48, R51), and the two fields of the model's own that carry IO_PORT (log entry 3). -/

namespace Sys2Proof.Machine

/-- The five error kinds of 60_exceptions.md R430. They are the `kind` of a FAULT record and the reason a
construction fails. No step answers `Host.Outcome.fault`: R432 and R433 give an error an effect (FAULT is
written, what happened before the raising access remains), so the step answers the NEXT state that has it
(log entry 1). -/
inductive Fault where
  /-- Code 1. Raised by a byte access to an address outside every defined window or beyond the image or the
  cartridge RAM (R431), and by constructing from an image shorter than 0x150 bytes (20_memory.md R122).
  Safe: the spec names it. -/
  | invalidAddress
  /-- Code 2. Raised by a write to a ROM-only cartridge (20_memory.md R132). Safe: the spec names it. -/
  | illegalWrite
  /-- Code 3. Raised by construction only, for a type byte R120 does not list (20_memory.md R121). Safe: no
  state exists. -/
  | unsupportedCartridgeType
  /-- Code 4. Raised by nothing: no encoding produces it (45_system.md R407). Safe: it is unreachable. -/
  | invalidOperand
  /-- Code 5. Raised by an MBC1 mode write other than 0x00 and 0x01 (20_memory.md R115). Safe: the spec
  names it. -/
  | invalidBankingMode
deriving DecidableEq, Repr

/-- Why a step has no meaning. -/
inductive Refusal where
  /-- Answered by an arm of exec whose instruction has no meaning yet; no arm answers it now. Safe: the
  model stops where the machine goes on. -/
  | notModelled (mnemonic : String)
deriving DecidableEq, Repr

/-- RUN (R41). -/
inductive RunState where
  | running
  | halted
  | stopped
deriving DecidableEq, Repr

/-- MARK (R56): the mark of an ending that is neither an error nor HALT or STOP. -/
inductive Mark where
  | none
  | refused
  | locked
deriving DecidableEq, Repr

/-- FAULT (R42, 60_exceptions.md R432): the kind; the address of the first byte of the instruction; the
opcode when one was fetched; the address of the access that raised; for InvalidBankingMode the value
written. -/
structure FaultRecord where
  kind : Fault
  pc : Word
  opcode : Option Opcode
  address : Option Word
  value : Option Byte
deriving DecidableEq, Repr

/-- MODE of MBC1 (R50): 0 is ROM-banking, 1 is RAM-banking. -/
inductive BankingMode where
  | rom
  | ram
deriving DecidableEq, Repr

/-- The bank registers of MBC1 (R50) at their widths, with the reset values of R55. -/
structure Mbc1 where
  ramEn : Bool := false
  romBank : BitVec 7 := 1#7
  ramBank : BitVec 2 := 0#2
  mode : BankingMode := .rom
deriving DecidableEq, Repr

/-- The bank registers of the MBC2 class (20_memory.md R141), with R141's reset values. -/
structure Mbc2 where
  ramEn : Bool := false
  romBank : BitVec 4 := 1#4
deriving DecidableEq, Repr

/-- The bank registers of the MBC3 class (20_memory.md R142), with R142's reset values. SEL is held in two
bits: only values up to 3 are ever stored (DEDUCED from R142, safe; log entry 19). -/
structure Mbc3 where
  ramEn : Bool := false
  romBank : BitVec 7 := 1#7
  sel : BitVec 2 := 0#2
deriving DecidableEq, Repr

/-- The bank registers of the MBC5 class (20_memory.md R143), with R143's reset values. -/
structure Mbc5 where
  ramEn : Bool := false
  romBank : BitVec 9 := 1#9
  ramBank : BitVec 4 := 0#4
deriving DecidableEq, Repr

/-- VARIANT (R48, 20_memory.md R120) with the bank registers of that variant. `rumble` says that the type
byte is 0x1C-0x1E (R143). -/
inductive Mapper where
  | romOnly
  | mbc1 (regs : Mbc1)
  | mbc2 (regs : Mbc2)
  | mbc3 (regs : Mbc3)
  | mbc5 (rumble : Bool) (regs : Mbc5)
deriving DecidableEq, Repr

/-- One forwarded access, as the collaborator sees it (20_memory.md R104). -/
inductive IoEvent where
  | read (address : Word) (answer : Byte)
  | write (address : Word) (value : Byte)
deriving DecidableEq, Repr

/-- The bytes of one store, by index from 0: a sorted list that holds no entry equal to what an unlisted
index reads as (Memory.unlisted). -/
abbrev Memory := List Host.Cell

structure State where
  /-- The eight general registers (R30). F holds Z, N, Hf, Cy in bits 7..4 and zero below (R31, R35). -/
  a : Byte
  b : Byte
  c : Byte
  d : Byte
  e : Byte
  f : Byte
  h : Byte
  l : Byte
  /-- SP (R38) and PC (R39). -/
  sp : Word
  pc : Word
  /-- IME (R40). -/
  ime : Bool
  /-- RUN (R41), FAULT (R42), MARK (R56). -/
  run : RunState
  fault : Option FaultRecord
  mark : Mark
  /-- BOOT_OFF (R43). -/
  bootOff : Bool
  /-- CYCLES (R44). -/
  cycles : Nat
  /-- WRAM (R45), VRAM (R46), OAM (R47). -/
  wram : Memory
  vram : Memory
  oam : Memory
  /-- CRAM (R49), and the 512 nibbles CRAM2 of the MBC2 class (20_memory.md R141), one in the low bits of
  each entry. -/
  cram : Memory
  cram2 : Memory
  /-- VARIANT and the bank registers (R48, R50). -/
  mapper : Mapper
  /-- Configuration: ROM and its length, CRAM_SIZE (R48), BOOT_IMAGE (R51), the modes (00_scope.md R8). -/
  rom : Memory
  romSize : Nat
  cramSize : Nat
  boot : Memory
  cfg : Config
  /-- The model's own: answers to forwarded reads that are already fixed (oldest first), and the forwarded
  accesses so far (newest first) (log entry 3). -/
  ioAnswers : List Byte
  ioLog : List IoEvent
deriving DecidableEq, Repr

/-- The machine right after its construction (R55, 70_reset_and_hazards.md R471) with the defaults of
00_scope.md R8, from the cartridge that 95_test_vectors.md's conventions name: 32 KB of zero bytes,
ROM-only, and a boot image of zero bytes. The spec leaves the image, the boot image and the initial memory
contents OPEN: DESIGN CHOICE, unsafe (log entries 5 and 6). -/
def State.reset : State where
  a := 0#8
  b := 0#8
  c := 0#8
  d := 0#8
  e := 0#8
  f := 0#8
  h := 0#8
  l := 0#8
  sp := 0xFFFE#16
  pc := 0x0000#16
  ime := false
  run := .running
  fault := none
  mark := .none
  bootOff := false
  cycles := 0
  wram := []
  vram := []
  oam := []
  cram := []
  cram2 := []
  mapper := .romOnly
  rom := []
  romSize := 0x8000
  cramSize := 0
  boot := []
  cfg := {}
  ioAnswers := []
  ioLog := []

end Sys2Proof.Machine
end

