-- ==== Sys2Proof/Machine/Memory.lean ====
section
/-! DEFINITION. The operations of one store (10_state.md R45-R49): read and write of a byte by index, the
canonical form they keep, and the store that holds a list of bytes. Indices are plain numbers; addresses are
mapped to them in Ops.lean. -/

namespace Sys2Proof.Machine

/-- What an unlisted index reads as. The initial contents are parameters of the construction
(00_scope.md R8, 10_state.md R55: "unspecified, any bytes"); an index no list gives holds this byte
(DESIGN CHOICE, unsafe at State.reset only; log entry 5). -/
def Memory.unlisted : Byte := 0x00#8

/-- The byte at an index. -/
def Memory.read : Memory → Nat → Byte
  | [], _ => Memory.unlisted
  | (k, v) :: m, i => if k = i then v else Memory.read m i

/-- The store with `v` at an index. -/
def Memory.write : Memory → Nat → Byte → Memory
  | [], i, v => if v = Memory.unlisted then [] else [(i, v)]
  | (k, w) :: m, i, v =>
    if k < i then (k, w) :: Memory.write m i v
    else if k = i then (if v = Memory.unlisted then m else (i, v) :: m)
    else if v = Memory.unlisted then (k, w) :: m
    else (i, v) :: (k, w) :: m

/-- Every index listed first is above `k`. -/
def Memory.startsAbove (k : Nat) : Memory → Bool
  | [] => true
  | (k', _) :: _ => decide (k < k')

/-- The canonical form: indices strictly rising, no entry equal to what an unlisted index reads as. -/
def Memory.wf : Memory → Bool
  | [] => true
  | (k, v) :: m => decide (v ≠ Memory.unlisted) && Memory.startsAbove k m && Memory.wf m

/-- Every listed index is below `n`: the store is an array of `n` bytes. -/
def Memory.within (n : Nat) (m : Memory) : Bool := m.all (fun cell => decide (cell.1 < n))

/-- The store that holds the bytes of a list from index `i` on. -/
def Memory.ofBytesFrom : Nat → List Byte → Memory
  | _, [] => []
  | i, v :: vs =>
    if v = Memory.unlisted then Memory.ofBytesFrom (i + 1) vs
    else (i, v) :: Memory.ofBytesFrom (i + 1) vs

/-- The array of `n` bytes that holds a list from index 0 on (a longer list is cut). -/
def Memory.ofBytes (n : Nat) (vs : List Byte) : Memory := Memory.ofBytesFrom 0 (vs.take n)

end Sys2Proof.Machine
end

