-- ==== Sys2Proof/Machine/Access.lean ====
section
/-! DEFINITION. How a step computes: a computation over State that gives a value or stops at an access, and
keeps in either case the state it has reached, because "every effect of the instruction's pseudocode before
that access remains" (60_exceptions.md R433). -/

namespace Sys2Proof.Machine

/-- Why an access stops the instruction. -/
inductive Stop where
  /-- `raise E(info)` (00_scope.md R15): the kind, the address of the access, and for InvalidBankingMode the
  value written (60_exceptions.md R432). -/
  | raised (kind : Fault) (address : Word) (value : Option Byte)
  /-- The access has no meaning in the spec (60_exceptions.md R436). -/
  | refused
deriving DecidableEq, Repr

/-- A computation of a step. EStateM keeps the state at a stop. -/
abbrev Exec := EStateM Stop State

/-- Read something of the state. -/
def look {α : Type} (f : State → α) : Exec α := fun s => .ok (f s) s

/-- Change the state. -/
def update (f : State → State) : Exec Unit := fun s => .ok () (f s)

/-- `raise kind(a)` (00_scope.md R15). -/
def raise {α : Type} (kind : Fault) (a : Word) (v : Option Byte) : Exec α :=
  fun s => .error (.raised kind a v) s

/-- Stop without a meaning (60_exceptions.md R436). -/
def refuseAccess {α : Type} : Exec α := fun s => .error .refused s

end Sys2Proof.Machine
end

