-- ==== Sys2Proof/Machine/Cartridge.lean ====
section
/-! DEFINITION. The cartridge controller: what a byte access to 0x0000-0x7FFF and 0xA000-0xBFFF does, for
every variant (20_memory.md R110-R116, R130-R132, R140-R143). -/

namespace Sys2Proof.Machine

/-- The ROM byte at an offset of the image, InvalidAddress beyond its end: "no wrapping" (R113, R130). -/
def romRead (a : Word) (offset : Nat) : Exec Byte := fun s =>
  if offset < s.romSize then .ok (s.rom.read offset) s else raise .invalidAddress a none s

/-- The offset of a ROM address in the image: bank 0 in the low window, the selected bank in the high one
(R113). -/
def romOffset (bank : Nat) (a : Word) : Nat :=
  if a.toNat ≤ 0x3FFF then a.toNat else bank * 0x4000 + (a.toNat - 0x4000)

/-- The offset of an external-RAM address in CRAM (R114). -/
def cramOffset (bank : Nat) (a : Word) : Nat := bank * 0x2000 + (a.toNat - 0xA000)

/-- A read of external RAM (R114). -/
def cramRead (ramEn : Bool) (bank : Nat) (a : Word) : Exec Byte := fun s =>
  if ramEn then
    if cramOffset bank a < s.cramSize then .ok (s.cram.read (cramOffset bank a)) s
    else raise .invalidAddress a none s
  else .ok 0xFF#8 s

/-- A write to external RAM (R114). -/
def cramWrite (ramEn : Bool) (bank : Nat) (a : Word) (v : Byte) : Exec Unit := fun s =>
  if ramEn then
    if cramOffset bank a < s.cramSize then
      .ok () { s with cram := s.cram.write (cramOffset bank a) v }
    else raise .invalidAddress a none s
  else .ok () s

/-- The cell of the MBC2 class an address names: `a[8:0]` (R141). -/
def cram2Index (a : Word) : Nat := a.toNat % 0x200

/-- A read of the MBC2 class's cells (R141). -/
def cram2Read (ramEn : Bool) (a : Word) : Exec Byte := fun s =>
  if ramEn then .ok (0xF0#8 ||| s.cram2.read (cram2Index a)) s else .ok 0xFF#8 s

/-- A write to the MBC2 class's cells stores the low nibble (R141). -/
def cram2Write (ramEn : Bool) (a : Word) (v : Byte) : Exec Unit := fun s =>
  if ramEn then .ok () { s with cram2 := s.cram2.write (cram2Index a) (v &&& 0x0F#8) } else .ok () s

/-- A read under OTHER_MBC_MODE = refuse (R140): the image as banks 0 and 1, external RAM refused. -/
def unspecifiedRead (a : Word) : Exec Byte :=
  if a.toNat ≤ 0x7FFF then romRead a a.toNat else refuseAccess

/-- `CartRead` (R113, R114, R130, R131, R140-R143). -/
def cartRead (a : Word) : Exec Byte := fun s =>
  match s.mapper, s.cfg.otherMbc with
  | .romOnly, _ => if a.toNat ≤ 0x7FFF then romRead a a.toNat s else raise .invalidAddress a none s
  | .mbc1 m, _ =>
    if a.toNat ≤ 0x7FFF then romRead a (romOffset m.romBank.toNat a) s
    else cramRead m.ramEn m.ramBank.toNat a s
  | .mbc2 m, .reference =>
    if a.toNat ≤ 0x7FFF then romRead a (romOffset m.romBank.toNat a) s else cram2Read m.ramEn a s
  | .mbc3 m, .reference =>
    if a.toNat ≤ 0x7FFF then romRead a (romOffset m.romBank.toNat a) s
    else cramRead m.ramEn m.sel.toNat a s
  | .mbc5 _ m, .reference =>
    if a.toNat ≤ 0x7FFF then romRead a (romOffset m.romBank.toNat a) s
    else cramRead m.ramEn m.ramBank.toNat a s
  | .mbc2 _, .refuse => unspecifiedRead a s
  | .mbc3 _, .refuse => unspecifiedRead a s
  | .mbc5 _ _, .refuse => unspecifiedRead a s

/-- The registers of MBC1 after a control write to 0x0000-0x5FFF, and to 0x6000-0x7FFF of a legal mode
(R110, R111, R112, R115). -/
def Mbc1.control (m : Mbc1) (a : Word) (v : Byte) : Mbc1 :=
  if a.toNat ≤ 0x1FFF then { m with ramEn := decide (v = 0x0A#8) }
  else if a.toNat ≤ 0x3FFF then
    let low := if v.setWidth 5 = 0#5 then 1#5 else v.setWidth 5
    { m with romBank := (m.romBank &&& 0x60#7) ||| low.setWidth 7 }
  else if a.toNat ≤ 0x5FFF then
    match m.mode with
    | .rom => { m with romBank := (v.setWidth 2).setWidth 7 <<< 5 ||| (m.romBank &&& 0x1F#7) }
    | .ram => { m with ramBank := v.setWidth 2 }
  else { m with mode := if v = 0x00#8 then .rom else .ram }

/-- The registers of the MBC2 class after a control write (R141). -/
def Mbc2.control (m : Mbc2) (a : Word) (v : Byte) : Mbc2 :=
  if a.toNat ≤ 0x3FFF then
    if a.getLsbD 8 then { m with romBank := if v.setWidth 4 = 0#4 then 1#4 else v.setWidth 4 }
    else { m with ramEn := decide (v.setWidth 4 = 0xA#4) }
  else m

/-- The registers of the MBC3 class after a control write that is not refused (R142). -/
def Mbc3.control (m : Mbc3) (a : Word) (v : Byte) : Mbc3 :=
  if a.toNat ≤ 0x1FFF then { m with ramEn := decide (v.setWidth 4 = 0xA#4) }
  else if a.toNat ≤ 0x3FFF then
    { m with romBank := if v.setWidth 7 = 0#7 then 1#7 else v.setWidth 7 }
  else if a.toNat ≤ 0x5FFF then { m with sel := v.setWidth 2 }
  else m

/-- The registers of the MBC5 class after a control write (R143). -/
def Mbc5.control (rumble : Bool) (m : Mbc5) (a : Word) (v : Byte) : Mbc5 :=
  if a.toNat ≤ 0x1FFF then { m with ramEn := decide (v = 0x0A#8) }
  else if a.toNat ≤ 0x2FFF then
    { m with romBank := (m.romBank &&& 0x100#9) ||| v.setWidth 9 }
  else if a.toNat ≤ 0x3FFF then
    { m with romBank := (m.romBank &&& 0x0FF#9) ||| (v.setWidth 1).setWidth 9 <<< 8 }
  else if a.toNat ≤ 0x5FFF then
    { m with ramBank := if rumble then (v.setWidth 3).setWidth 4 else v.setWidth 4 }
  else m

/-- `CartWrite` (R110-R112, R114-R116, R132, R140-R143). -/
def cartWrite (a : Word) (v : Byte) : Exec Unit := fun s =>
  match s.mapper, s.cfg.otherMbc with
  | .romOnly, _ => raise .illegalWrite a none s
  | .mbc1 m, _ =>
    if a.toNat ≤ 0x7FFF then
      if 0x6000 ≤ a.toNat ∧ v ≠ 0x00#8 ∧ v ≠ 0x01#8 then raise .invalidBankingMode a (some v) s
      else .ok () { s with mapper := .mbc1 (m.control a v) }
    else cramWrite m.ramEn m.ramBank.toNat a v s
  | .mbc2 m, .reference =>
    if a.toNat ≤ 0x7FFF then .ok () { s with mapper := .mbc2 (m.control a v) }
    else cram2Write m.ramEn a v s
  | .mbc3 m, .reference =>
    if a.toNat ≤ 0x7FFF then
      if 0x4000 ≤ a.toNat ∧ a.toNat ≤ 0x5FFF ∧ 0x03 < v.toNat then refuseAccess s
      else .ok () { s with mapper := .mbc3 (m.control a v) }
    else cramWrite m.ramEn m.sel.toNat a v s
  | .mbc5 rumble m, .reference =>
    if a.toNat ≤ 0x7FFF then .ok () { s with mapper := .mbc5 rumble (Mbc5.control rumble m a v) }
    else cramWrite m.ramEn m.ramBank.toNat a v s
  | .mbc2 _, .refuse => refuseAccess s
  | .mbc3 _, .refuse => refuseAccess s
  | .mbc5 _ _, .refuse => refuseAccess s

end Sys2Proof.Machine
end

