-- ==== Sys2Proof/Machine/Ops.lean ====
section
/-! DEFINITION. The named operations over registers and memory: the pair views, the address-space
multiplexer, fetching, pushing and popping, ending a run with an error or a mark, and completing an
instruction. -/

namespace Sys2Proof.Machine

/-! ## Registers -/

/-- `x[r]` of a register code other than 6 (30_encoding.md R184). -/
def State.getReg (s : State) : Reg → Byte
  | .b => s.b
  | .c => s.c
  | .d => s.d
  | .e => s.e
  | .h => s.h
  | .l => s.l
  | .a => s.a

/-- `x[r] <- v` of a register code other than 6 (30_encoding.md R184). -/
def State.setReg (s : State) (r : Reg) (v : Byte) : State :=
  match r with
  | .b => { s with b := v }
  | .c => { s with c := v }
  | .d => { s with d := v }
  | .e => { s with e := v }
  | .h => { s with h := v }
  | .l => { s with l := v }
  | .a => { s with a := v }

/-- `F <- v` stores `v & 0xF0` (10_state.md R31). -/
def State.setF (s : State) (v : Byte) : State := { s with f := v &&& 0xF0#8 }

/-- The views BC, DE, HL and AF (10_state.md R32). -/
def State.bc (s : State) : Word := joinBytes s.b s.c

def State.de (s : State) : Word := joinBytes s.d s.e

def State.hl (s : State) : Word := joinBytes s.h s.l

def State.af (s : State) : Word := joinBytes s.a s.f

def State.setBc (s : State) (v : Word) : State := { s with b := highByte v, c := lowByte v }

def State.setDe (s : State) (v : Word) : State := { s with d := highByte v, e := lowByte v }

def State.setHl (s : State) (v : Word) : State := { s with h := highByte v, l := lowByte v }

/-- `write16(AF, v)` masks F (10_state.md R32, R31). -/
def State.setAf (s : State) (v : Word) : State := State.setF { s with a := highByte v } (lowByte v)

/-- `rp[p]` (30_encoding.md R185). -/
def State.getPair (s : State) : Pair → Word
  | .bc => s.bc
  | .de => s.de
  | .hl => s.hl
  | .sp => s.sp

/-- `rp[p] <- v` (30_encoding.md R185, 10_state.md R32). -/
def State.setPair (s : State) (p : Pair) (v : Word) : State :=
  match p with
  | .bc => s.setBc v
  | .de => s.setDe v
  | .hl => s.setHl v
  | .sp => { s with sp := v }

/-- `rp2[p]` (30_encoding.md R185). -/
def State.getStackPair (s : State) : StackPair → Word
  | .bc => s.bc
  | .de => s.de
  | .hl => s.hl
  | .af => s.af

/-- `rp2[p] <- v` (30_encoding.md R185, 10_state.md R32). -/
def State.setStackPair (s : State) (p : StackPair) (v : Word) : State :=
  match p with
  | .bc => s.setBc v
  | .de => s.setDe v
  | .hl => s.setHl v
  | .af => s.setAf v

/-- `PC <- a`. -/
def State.setPc (s : State) (a : Word) : State := { s with pc := a }

/-- `SP <- a`. -/
def State.setSp (s : State) (a : Word) : State := { s with sp := a }

/-- `cycles += n` (00_scope.md R15). -/
def State.addCycles (s : State) (n : Nat) : State := { s with cycles := s.cycles + n }

/-! ## The address-space multiplexer -/

/-- The regions of the address map (20_memory.md R81). -/
inductive Region where
  | cartRom
  | vram
  | cartRam
  | wram
  | echo
  | oam
  | unmapped
  | bootStatus
  | forwarded
deriving DecidableEq, Repr

/-- The one region an address maps to (20_memory.md R81, R82). -/
def regionOf (a : Word) : Region :=
  if a.toNat ≤ 0x7FFF then .cartRom
  else if a.toNat ≤ 0x9FFF then .vram
  else if a.toNat ≤ 0xBFFF then .cartRam
  else if a.toNat ≤ 0xDFFF then .wram
  else if a.toNat ≤ 0xFDFF then .echo
  else if a.toNat ≤ 0xFE9F then .oam
  else if a.toNat ≤ 0xFEFF then .unmapped
  else if a.toNat = 0xFF50 then .bootStatus
  else .forwarded

/-- `IO_PORT.read(a)` (20_memory.md R104): the next answer that is already fixed, else a free value; the
access is one event (log entry 3). -/
def ioRead (a : Word) : Exec Byte := fun s =>
  match s.ioAnswers with
  | v :: rest => .ok v { s with ioAnswers := rest, ioLog := .read a v :: s.ioLog }
  | [] =>
    .ok (Config.ioAnswer s.ioLog.length)
      { s with ioLog := .read a (Config.ioAnswer s.ioLog.length) :: s.ioLog }

/-- `IO_PORT.write(a, v)` (20_memory.md R104): one event, no change of CORE state. -/
def ioWrite (a : Word) (v : Byte) : Exec Unit := fun s =>
  .ok () { s with ioLog := .write a v :: s.ioLog }

/-- `MemRead(a, 1)` (20_memory.md R90). -/
def memRead (a : Word) : Exec Byte := fun s =>
  match regionOf a with
  | .cartRom =>
    if a.toNat ≤ 0x00FF ∧ s.bootOff = false then .ok (s.boot.read a.toNat) s else cartRead a s
  | .vram => .ok (s.vram.read (a.toNat - 0x8000)) s
  | .cartRam => cartRead a s
  | .wram => .ok (s.wram.read (a.toNat - 0xC000)) s
  | .echo => .ok (s.wram.read (a.toNat - 0xE000)) s
  | .oam => .ok (s.oam.read (a.toNat - 0xFE00)) s
  | .unmapped => raise .invalidAddress a none s
  | .bootStatus => .ok (0xFE#8 ||| (if s.bootOff then 0x01#8 else 0x00#8)) s
  | .forwarded => ioRead a s

/-- `MemWrite(a, 1, v)` (20_memory.md R91). -/
def memWrite (a : Word) (v : Byte) : Exec Unit := fun s =>
  match regionOf a with
  | .cartRom => cartWrite a v s
  | .vram => .ok () { s with vram := s.vram.write (a.toNat - 0x8000) v }
  | .cartRam => cartWrite a v s
  | .wram => .ok () { s with wram := s.wram.write (a.toNat - 0xC000) v }
  | .echo => .ok () { s with wram := s.wram.write (a.toNat - 0xE000) v }
  | .oam => .ok () { s with oam := s.oam.write (a.toNat - 0xFE00) v }
  | .unmapped => raise .invalidAddress a none s
  | .bootStatus => .ok () (if v ≠ 0x00#8 then { s with bootOff := true } else s)
  | .forwarded => ioWrite a v s

/-- The byte an address holds now, seen without an access: none where an access would stop or is forwarded
to the collaborator, which the CORE does not hold. The frames are stated with it. -/
def State.peek (s : State) (a : Word) : Option Byte :=
  if regionOf a = .forwarded then none
  else
    match memRead a s with
    | .ok v _ => some v
    | .error _ _ => none

/-- The address that stands for all the addresses of one byte: echo RAM is working RAM at a - 0x2000
(20_memory.md R94), and the MBC2 class mirrors its cells over the external-RAM region (R141). -/
def State.home (s : State) (a : Word) : Word :=
  match regionOf a, s.mapper with
  | .echo, _ => a - 0x2000#16
  | .cartRam, .mbc2 _ => 0xA000#16 + BitVec.ofNat 16 (cram2Index a)
  | _, _ => a

/-! ## The instruction stream and the stack -/

/-- `fetch8()` (00_scope.md R14). -/
def fetch8 : Exec Byte := do
  let pc ← look State.pc
  let v ← memRead pc
  update fun s => s.setPc (s.pc + 1#16)
  pure v

/-- `fetch16()` (00_scope.md R14). -/
def fetch16 : Exec Word := do
  let lo ← fetch8
  let hi ← fetch8
  pure (joinBytes hi lo)

/-- Everything of an instruction after its first byte: the CB second byte or the immediates, low byte first
(30_encoding.md R190, 60_exceptions.md R434). -/
def fetchRest (op : Byte) : Exec Instr :=
  match decodeOp op with
  | .done i => pure i
  | .imm8 f => do
    let n ← fetch8
    pure (f n)
  | .imm16 f => do
    let v ← fetch16
    pure (f v)
  | .extended => do
    let cb ← fetch8
    pure (decodeExtended cb)

/-- `SP <- u16(SP - 1); MemWrite(SP, 1, v)`: half of Push16 (40_loads.md R242). -/
def pushByte (v : Byte) : Exec Unit := do
  update fun s => s.setSp (s.sp - 1#16)
  let sp ← look State.sp
  memWrite sp v

/-- `Push16(v)` (40_loads.md R242): high byte first. -/
def push16 (v : Word) : Exec Unit := do
  pushByte (highByte v)
  pushByte (lowByte v)

/-- `MemRead(SP, 1); SP <- u16(SP + 1)`: half of Pop16 (40_loads.md R244). -/
def popByte : Exec Byte := do
  let sp ← look State.sp
  let v ← memRead sp
  update fun s => s.setSp (s.sp + 1#16)
  pure v

/-- `Pop16()` (40_loads.md R244): low byte first. -/
def pop16 : Exec Word := do
  let lo ← popByte
  let hi ← popByte
  pure (joinBytes hi lo)

/-! ## Ending and completing -/

/-- A step stops at an access: an error writes FAULT with the address of the instruction's first byte and
the opcode fetched (60_exceptions.md R432), a refusal writes MARK (R436). Every other effect before the
access remains (R433). -/
def State.endRun (s : State) (why : Stop) (pc0 : Word) (opcode : Option Opcode) : State :=
  match why with
  | .raised kind address value =>
    { s with fault := some { kind, pc := pc0, opcode, address := some address, value } }
  | .refused => { s with mark := .refused }

/-- The address of the first byte of an instruction whose bytes have just been fetched: PC is past its last
byte then (10_state.md R39). -/
def State.firstByteOf (s : State) (i : Instr) : Word := s.pc - BitVec.ofNat 16 i.length

/-- Run an instruction's pseudocode, which gives its cycle count, on the state after its bytes have been
fetched: it completes and CYCLES grows by the count (70_reset_and_hazards.md R486), or it stops at an access
and nothing after it happens, the count included (60_exceptions.md R433). -/
def complete (i : Instr) (body : Exec Nat) (s : State) : Host.Outcome State Fault Refusal :=
  match body s with
  | .ok t s' => .next (s'.addCycles t)
  | .error why s' => .next (s'.endRun why (s.firstByteOf i) (some i.opcode))

/-- A pseudocode that always takes `t` cycles. -/
def taking (t : Nat) (body : Exec Unit) : Exec Nat := do
  body
  pure t

/-- `run()` goes on only in such a state (70_reset_and_hazards.md R474, R475). -/
def State.isRunning (s : State) : Bool :=
  decide (s.run = .running ∧ s.fault = none ∧ s.mark = .none)

end Sys2Proof.Machine
end

