-- ==== Sys2Proof/Machine/Flags.lean ====
section
/-! DEFINITION. The flags (10_state.md R35-R37) and every flag and result computation of the spec: Add8,
Sub8 and the logic group (41_alu8.md), DAA (R285), Add16 and SPOff (42_alu16.md), the rotates and shifts
(43_rotate_shift_bit.md R347). Sums are computed on unbounded integers and narrowed at the end
(00_scope.md R11). -/

namespace Sys2Proof.Machine

/-- The four flags (10_state.md R36). -/
inductive Flag where
  | zero
  | subtract
  | halfCarry
  | carry
deriving DecidableEq, Repr

/-- The bit of F that holds a flag (10_state.md R35). -/
def Flag.bit : Flag → Nat
  | .zero => 7
  | .subtract => 6
  | .halfCarry => 5
  | .carry => 4

/-- `read_flag(X)` (10_state.md R36). -/
def State.flag (s : State) (x : Flag) : Bool := s.f.getLsbD x.bit

/-- The byte with the four flags in their bits and zero below (10_state.md R35). -/
def packFlags (z n h c : Bool) : Byte :=
  (BitVec.ofBool z ++ BitVec.ofBool n ++ BitVec.ofBool h ++ BitVec.ofBool c ++ 0#4 : BitVec 8)

/-- Write the four flags; a flag an instruction leaves unchanged is given as it stands. -/
def State.setFlags (s : State) (z n h c : Bool) : State := s.setF (packFlags z n h c)

/-- `set_flag(X)` and `reset_flag(X)` (10_state.md R36): the other flags stay. -/
def State.setFlag (s : State) (x : Flag) (v : Bool) : State :=
  let keep := fun y => if y = x then v else s.flag y
  s.setFlags (keep .zero) (keep .subtract) (keep .halfCarry) (keep .carry)

/-- A result with the four flags it leaves. -/
structure FlagResult (w : Nat) where
  result : BitVec w
  z : Bool
  n : Bool
  h : Bool
  c : Bool
deriving DecidableEq, Repr

/-- `Add8(a, b, ci)` (41_alu8.md R271). -/
def add8 (a b : Byte) (ci : Bool) : FlagResult 8 :=
  let sum := a.toNat + b.toNat + ci.toNat
  { result := BitVec.ofNat 8 sum
    z := decide (BitVec.ofNat 8 sum = 0x00#8)
    n := false
    h := decide (a.toNat % 0x10 + b.toNat % 0x10 + ci.toNat > 0x0F)
    c := decide (sum > 0xFF) }

/-- `Sub8(a, b, ci)` (41_alu8.md R272): Cy and Hf are 1 exactly when a borrow occurs. -/
def sub8 (a b : Byte) (ci : Bool) : FlagResult 8 :=
  let difference : Int := (a.toNat : Int) - b.toNat - ci.toNat
  { result := BitVec.ofInt 8 difference
    z := decide (BitVec.ofInt 8 difference = 0x00#8)
    n := true
    h := decide (a.toNat % 0x10 < b.toNat % 0x10 + ci.toNat)
    c := decide (a.toNat < b.toNat + ci.toNat) }

/-- The result and flags of a logic operation (41_alu8.md R277-R279). -/
def logic8 (r : Byte) (h : Bool) : FlagResult 8 :=
  { result := r, z := decide (r = 0x00#8), n := false, h, c := false }

/-- The ALU operation on A and s with carry-in (41_alu8.md R273-R280). For CP the result is discarded. -/
def aluCompute (op : AluOp) (a b : Byte) (cy : Bool) : FlagResult 8 :=
  match op with
  | .add => add8 a b false
  | .adc => add8 a b cy
  | .sub => sub8 a b false
  | .sbc => sub8 a b cy
  | .and => logic8 (a &&& b) true
  | .xor => logic8 (a ^^^ b) false
  | .or => logic8 (a ||| b) false
  | .cp => sub8 a b false

/-- Write the flags of a result. -/
def State.withFlagsOf {w : Nat} (s : State) (r : FlagResult w) : State := s.setFlags r.z r.n r.h r.c

/-- An ALU instruction's effect on A and F with its source operand (41_alu8.md R273-R280): "compare (CP)
performs the subtraction for flag effect only, discarding the result". -/
def State.alu (s : State) (op : AluOp) (v : Byte) : State :=
  let r := aluCompute op s.a v (s.flag .carry)
  match op with
  | .cp => s.withFlagsOf r
  | _ => State.withFlagsOf { s with a := r.result } r

/-- The flags after INC of `v` (41_alu8.md R281): Cy stays. -/
def State.incFlags (s : State) (v : Byte) : State :=
  s.setFlags (decide (v + 1#8 = 0x00#8)) false (decide (v &&& 0x0F#8 = 0x0F#8)) (s.flag .carry)

/-- The flags after DEC of `v` (41_alu8.md R283): Cy stays. -/
def State.decFlags (s : State) (v : Byte) : State :=
  s.setFlags (decide (v - 1#8 = 0x00#8)) true (decide (v &&& 0x0F#8 = 0x00#8)) (s.flag .carry)

/-- Decimal adjust of A under N, Hf, Cy: the adjusted byte and the new carry (41_alu8.md R285). -/
def daaAdjust (a : Byte) (n h c : Bool) : Byte × Bool :=
  if n then
    let a1 := if c then a - 0x60#8 else a
    let a2 := if h then a1 - 0x06#8 else a1
    (a2, c)
  else
    let high := c || decide (a.toNat > 0x99)
    let a1 := if high then a + 0x60#8 else a
    let a2 := if h || decide ((a1 &&& 0x0F#8).toNat > 0x09) then a1 + 0x06#8 else a1
    (a2, high)

/-- DAA (41_alu8.md R285). -/
def State.daa (s : State) : State :=
  let (r, cy) := daaAdjust s.a (s.flag .subtract) (s.flag .halfCarry) (s.flag .carry)
  State.setFlags { s with a := r } (decide (r = 0x00#8)) (s.flag .subtract) false cy

/-- `Add16(a, b)` (42_alu16.md R310); `z` is the Zero flag before. -/
def add16 (mode : Add16ZMode) (z : Bool) (a b : Word) : FlagResult 16 :=
  let sum := a.toNat + b.toNat
  { result := BitVec.ofNat 16 sum
    z := match mode with
      | .result => decide (BitVec.ofNat 16 sum = 0x0000#16)
      | .preserve => z
    n := false
    h := decide (a.toNat % 0x1000 + b.toNat % 0x1000 > 0x0FFF)
    c := decide (sum > 0xFFFF) }

/-- `SPOff(e8)` (42_alu16.md R311): the flags come from the unsigned addition of the low bytes. -/
def spOffset (sp : Word) (e : Byte) : FlagResult 16 :=
  { result := sp + signExtendByte e
    z := false
    n := false
    h := decide (sp.toNat % 0x10 + e.toNat % 0x10 > 0x0F)
    c := decide (sp.toNat % 0x100 + e.toNat > 0xFF) }

/-- The eight rotates and shifts: the result and the bit shifted out (43_rotate_shift_bit.md R347). -/
def rotCompute (op : RotOp) (v : Byte) (cy : Bool) : Byte × Bool :=
  match op with
  | .rlc => (v <<< 1 ||| v >>> 7, v.getLsbD 7)
  | .rrc => (v >>> 1 ||| v <<< 7, v.getLsbD 0)
  | .rl => (v <<< 1 ||| (BitVec.ofBool cy).setWidth 8, v.getLsbD 7)
  | .rr => (v >>> 1 ||| (BitVec.ofBool cy).setWidth 8 <<< 7, v.getLsbD 0)
  | .sla => (v <<< 1, v.getLsbD 7)
  | .sra => (v >>> 1 ||| (v &&& 0x80#8), v.getLsbD 0)
  | .swap => (v <<< 4 ||| v >>> 4, false)
  | .srl => (v >>> 1, v.getLsbD 0)

/-- `1 << b` for a bit index (43_rotate_shift_bit.md R345, R346). -/
def bitMask (b : Octal) : Byte := 1#8 <<< b.value

/-- `cond(cc)` (44_control.md R370). -/
def State.holds (s : State) : Cond → Bool
  | .nz => !s.flag .zero
  | .z => s.flag .zero
  | .nc => !s.flag .carry
  | .c => s.flag .carry

end Sys2Proof.Machine
end

