-- ==== Sys2Proof/Machine/Operands.lean ====
section
/-! DEFINITION. The operand forms: the 3-bit code with (HL) (30_encoding.md R184, 43_rotate_shift_bit.md
R330), the indirect forms (BC), (DE), (HL), (HL+), (HL-), (a16), 0xFF00+a8 and 0xFF00+C (R187,
40_loads.md). An address is a function of the state the instruction starts from. -/

namespace Sys2Proof.Machine

/-- `ReadR(r)` (30_encoding.md R184). -/
def readOperand : Operand → Exec Byte
  | .reg r => look (State.getReg · r)
  | .memHl => do
    let a ← look State.hl
    memRead a

/-- `WriteR(r, v)` (30_encoding.md R184). -/
def writeOperand (o : Operand) (v : Byte) : Exec Unit :=
  match o with
  | .reg r => update (State.setReg · r v)
  | .memHl => do
    let a ← look State.hl
    memWrite a v

/-- `0xFF00 + zext_16(n)` (30_encoding.md R187). -/
def highPage (n : Byte) : Word := 0xFF00#16 + zeroExtendByte n

/-- `x[r] <- MemRead(address, 1)`. -/
def loadFrom (r : Reg) (address : State → Word) : Exec Unit := do
  let a ← look address
  let v ← memRead a
  update (State.setReg · r v)

/-- `MemWrite(address, 1, value)`. -/
def storeTo (address : State → Word) (value : State → Byte) : Exec Unit := do
  let a ← look address
  let v ← look value
  memWrite a v

/-- Step HL by `delta` after the access of an (HL+) or (HL-) form; no flag changes (40_loads.md
R235-R238). -/
def stepHl (delta : Word) : Exec Unit := update fun s => s.setHl (s.hl + delta)

end Sys2Proof.Machine
end

