-- ==== Sys2Proof/Machine/Alu16.lean ====
section
/-! DEFINITION. 16-bit arithmetic (42_alu16.md). No instruction here accesses data memory. -/

namespace Sys2Proof.Machine

/-- `HL <- Add16(HL, rp[p])` (R312). -/
def addHl (p : Pair) : Exec Unit := update fun s =>
  let r := add16 s.cfg.add16Z (s.flag .zero) s.hl (s.getPair p)
  (s.setHl r.result).withFlagsOf r

/-- `rp[p] <- u16(rp[p] + 1)`, no flag (R313). -/
def incPair (p : Pair) : Exec Unit := update fun s => s.setPair p (s.getPair p + 1#16)

/-- `rp[p] <- u16(rp[p] - 1)`, no flag (R314). -/
def decPair (p : Pair) : Exec Unit := update fun s => s.setPair p (s.getPair p - 1#16)

/-- `SP <- SPOff(e)` (R315). -/
def addSp (e : Byte) : Exec Unit := update fun s =>
  let r := spOffset s.sp e
  (s.setSp r.result).withFlagsOf r

/-- `HL <- SPOff(e)`; SP stays (R316). -/
def loadHlSp (e : Byte) : Exec Unit := update fun s =>
  let r := spOffset s.sp e
  (s.setHl r.result).withFlagsOf r

/-! One meaning per row of opcode_table.json, in the table's order. -/

/-- INC BC (R313). -/
def execIncBc (s : State) : Host.Outcome State Fault Refusal :=
  complete .incBc (taking 8 (incPair .bc)) s

/-- ADD HL,BC (R312). -/
def execAddHlBc (s : State) : Host.Outcome State Fault Refusal :=
  complete .addHlBc (taking 8 (addHl .bc)) s

/-- DEC BC (R314). -/
def execDecBc (s : State) : Host.Outcome State Fault Refusal :=
  complete .decBc (taking 8 (decPair .bc)) s

/-- INC DE (R313). -/
def execIncDe (s : State) : Host.Outcome State Fault Refusal :=
  complete .incDe (taking 8 (incPair .de)) s

/-- ADD HL,DE (R312). -/
def execAddHlDe (s : State) : Host.Outcome State Fault Refusal :=
  complete .addHlDe (taking 8 (addHl .de)) s

/-- DEC DE (R314). -/
def execDecDe (s : State) : Host.Outcome State Fault Refusal :=
  complete .decDe (taking 8 (decPair .de)) s

/-- INC HL (R313). -/
def execIncHl (s : State) : Host.Outcome State Fault Refusal :=
  complete .incHl (taking 8 (incPair .hl)) s

/-- ADD HL,HL (R312). -/
def execAddHlHl (s : State) : Host.Outcome State Fault Refusal :=
  complete .addHlHl (taking 8 (addHl .hl)) s

/-- DEC HL (R314). -/
def execDecHl (s : State) : Host.Outcome State Fault Refusal :=
  complete .decHl (taking 8 (decPair .hl)) s

/-- INC SP (R313). -/
def execIncSp (s : State) : Host.Outcome State Fault Refusal :=
  complete .incSp (taking 8 (incPair .sp)) s

/-- ADD HL,SP (R312). -/
def execAddHlSp (s : State) : Host.Outcome State Fault Refusal :=
  complete .addHlSp (taking 8 (addHl .sp)) s

/-- DEC SP (R314). -/
def execDecSp (s : State) : Host.Outcome State Fault Refusal :=
  complete .decSp (taking 8 (decPair .sp)) s

/-- ADD SP,e8 (R315). -/
def execAddSpE8 (e : Byte) (s : State) : Host.Outcome State Fault Refusal :=
  complete (.addSpE8 e) (taking 16 (addSp e)) s

/-- LD HL,SP+e8 (R316). -/
def execLdHlSpE8 (e : Byte) (s : State) : Host.Outcome State Fault Refusal :=
  complete (.ldHlSpE8 e) (taking 12 (loadHlSp e)) s

end Sys2Proof.Machine
end

