-- ==== Sys2Proof/Machine/Alu8.lean ====
section
/-! DEFINITION. 8-bit arithmetic and logic (41_alu8.md). -/

namespace Sys2Proof.Machine

/-- An ALU operation with `s <- ReadR(z)` (R270). -/
def aluWith (op : AluOp) (o : Operand) : Exec Unit := do
  let v ← readOperand o
  update (State.alu · op v)

/-- An ALU operation with an immediate (R270). -/
def aluImm (op : AluOp) (n : Byte) : Exec Unit := update (State.alu · op n)

/-- INC r and INC (HL): the flags are written only if both accesses succeed (R281, R282). -/
def incOperand (o : Operand) : Exec Unit := do
  let v ← readOperand o
  writeOperand o (v + 1#8)
  update (State.incFlags · v)

/-- DEC r and DEC (HL): the flags are written only if both accesses succeed (R283, R284). -/
def decOperand (o : Operand) : Exec Unit := do
  let v ← readOperand o
  writeOperand o (v - 1#8)
  update (State.decFlags · v)

/-- DAA (R285). -/
def decimalAdjust : Exec Unit := update State.daa

/-- CPL: A is complemented, N and Hf are set, Z and Cy stay (R286). -/
def complementA : Exec Unit := update fun s =>
  State.setFlags { s with a := ~~~s.a } (s.flag .zero) true true (s.flag .carry)

/-- SCF: Z stays (R287). -/
def setCarry : Exec Unit := update fun s => s.setFlags (s.flag .zero) false false true

/-- CCF: Z stays (R288). -/
def complementCarry : Exec Unit := update fun s =>
  s.setFlags (s.flag .zero) false false (!s.flag .carry)

/-! One meaning per row of opcode_table.json, in the table's order. -/

/-- INC B (R281). -/
def execIncB (s : State) : Host.Outcome State Fault Refusal :=
  complete .incB (taking 4 (incOperand (.reg .b))) s

/-- DEC B (R283). -/
def execDecB (s : State) : Host.Outcome State Fault Refusal :=
  complete .decB (taking 4 (decOperand (.reg .b))) s

/-- INC C (R281). -/
def execIncC (s : State) : Host.Outcome State Fault Refusal :=
  complete .incC (taking 4 (incOperand (.reg .c))) s

/-- DEC C (R283). -/
def execDecC (s : State) : Host.Outcome State Fault Refusal :=
  complete .decC (taking 4 (decOperand (.reg .c))) s

/-- INC D (R281). -/
def execIncD (s : State) : Host.Outcome State Fault Refusal :=
  complete .incD (taking 4 (incOperand (.reg .d))) s

/-- DEC D (R283). -/
def execDecD (s : State) : Host.Outcome State Fault Refusal :=
  complete .decD (taking 4 (decOperand (.reg .d))) s

/-- INC E (R281). -/
def execIncE (s : State) : Host.Outcome State Fault Refusal :=
  complete .incE (taking 4 (incOperand (.reg .e))) s

/-- DEC E (R283). -/
def execDecE (s : State) : Host.Outcome State Fault Refusal :=
  complete .decE (taking 4 (decOperand (.reg .e))) s

/-- INC H (R281). -/
def execIncH (s : State) : Host.Outcome State Fault Refusal :=
  complete .incH (taking 4 (incOperand (.reg .h))) s

/-- DEC H (R283). -/
def execDecH (s : State) : Host.Outcome State Fault Refusal :=
  complete .decH (taking 4 (decOperand (.reg .h))) s

/-- DAA (R285). -/
def execDaa (s : State) : Host.Outcome State Fault Refusal :=
  complete .daa (taking 4 decimalAdjust) s

/-- INC L (R281). -/
def execIncL (s : State) : Host.Outcome State Fault Refusal :=
  complete .incL (taking 4 (incOperand (.reg .l))) s

/-- DEC L (R283). -/
def execDecL (s : State) : Host.Outcome State Fault Refusal :=
  complete .decL (taking 4 (decOperand (.reg .l))) s

/-- CPL (R286). -/
def execCpl (s : State) : Host.Outcome State Fault Refusal :=
  complete .cpl (taking 4 complementA) s

/-- INC (HL) (R282). -/
def execIncMemHl (s : State) : Host.Outcome State Fault Refusal :=
  complete .incMemHl (taking 12 (incOperand .memHl)) s

/-- DEC (HL) (R284). -/
def execDecMemHl (s : State) : Host.Outcome State Fault Refusal :=
  complete .decMemHl (taking 12 (decOperand .memHl)) s

/-- SCF (R287). -/
def execScf (s : State) : Host.Outcome State Fault Refusal :=
  complete .scf (taking 4 setCarry) s

/-- INC A (R281). -/
def execIncA (s : State) : Host.Outcome State Fault Refusal :=
  complete .incA (taking 4 (incOperand (.reg .a))) s

/-- DEC A (R283). -/
def execDecA (s : State) : Host.Outcome State Fault Refusal :=
  complete .decA (taking 4 (decOperand (.reg .a))) s

/-- CCF (R288). -/
def execCcf (s : State) : Host.Outcome State Fault Refusal :=
  complete .ccf (taking 4 complementCarry) s

/-- ADD A,B (R273). -/
def execAddAB (s : State) : Host.Outcome State Fault Refusal :=
  complete .addAB (taking 4 (aluWith .add (.reg .b))) s

/-- ADD A,C (R273). -/
def execAddAC (s : State) : Host.Outcome State Fault Refusal :=
  complete .addAC (taking 4 (aluWith .add (.reg .c))) s

/-- ADD A,D (R273). -/
def execAddAD (s : State) : Host.Outcome State Fault Refusal :=
  complete .addAD (taking 4 (aluWith .add (.reg .d))) s

/-- ADD A,E (R273). -/
def execAddAE (s : State) : Host.Outcome State Fault Refusal :=
  complete .addAE (taking 4 (aluWith .add (.reg .e))) s

/-- ADD A,H (R273). -/
def execAddAH (s : State) : Host.Outcome State Fault Refusal :=
  complete .addAH (taking 4 (aluWith .add (.reg .h))) s

/-- ADD A,L (R273). -/
def execAddAL (s : State) : Host.Outcome State Fault Refusal :=
  complete .addAL (taking 4 (aluWith .add (.reg .l))) s

/-- ADD A,(HL) (R273). -/
def execAddAMemHl (s : State) : Host.Outcome State Fault Refusal :=
  complete .addAMemHl (taking 8 (aluWith .add .memHl)) s

/-- ADD A,A (R273). -/
def execAddAA (s : State) : Host.Outcome State Fault Refusal :=
  complete .addAA (taking 4 (aluWith .add (.reg .a))) s

/-- ADC A,B (R274). -/
def execAdcAB (s : State) : Host.Outcome State Fault Refusal :=
  complete .adcAB (taking 4 (aluWith .adc (.reg .b))) s

/-- ADC A,C (R274). -/
def execAdcAC (s : State) : Host.Outcome State Fault Refusal :=
  complete .adcAC (taking 4 (aluWith .adc (.reg .c))) s

/-- ADC A,D (R274). -/
def execAdcAD (s : State) : Host.Outcome State Fault Refusal :=
  complete .adcAD (taking 4 (aluWith .adc (.reg .d))) s

/-- ADC A,E (R274). -/
def execAdcAE (s : State) : Host.Outcome State Fault Refusal :=
  complete .adcAE (taking 4 (aluWith .adc (.reg .e))) s

/-- ADC A,H (R274). -/
def execAdcAH (s : State) : Host.Outcome State Fault Refusal :=
  complete .adcAH (taking 4 (aluWith .adc (.reg .h))) s

/-- ADC A,L (R274). -/
def execAdcAL (s : State) : Host.Outcome State Fault Refusal :=
  complete .adcAL (taking 4 (aluWith .adc (.reg .l))) s

/-- ADC A,(HL) (R274). -/
def execAdcAMemHl (s : State) : Host.Outcome State Fault Refusal :=
  complete .adcAMemHl (taking 8 (aluWith .adc .memHl)) s

/-- ADC A,A (R274). -/
def execAdcAA (s : State) : Host.Outcome State Fault Refusal :=
  complete .adcAA (taking 4 (aluWith .adc (.reg .a))) s

/-- SUB B (R275). -/
def execSubB (s : State) : Host.Outcome State Fault Refusal :=
  complete .subB (taking 4 (aluWith .sub (.reg .b))) s

/-- SUB C (R275). -/
def execSubC (s : State) : Host.Outcome State Fault Refusal :=
  complete .subC (taking 4 (aluWith .sub (.reg .c))) s

/-- SUB D (R275). -/
def execSubD (s : State) : Host.Outcome State Fault Refusal :=
  complete .subD (taking 4 (aluWith .sub (.reg .d))) s

/-- SUB E (R275). -/
def execSubE (s : State) : Host.Outcome State Fault Refusal :=
  complete .subE (taking 4 (aluWith .sub (.reg .e))) s

/-- SUB H (R275). -/
def execSubH (s : State) : Host.Outcome State Fault Refusal :=
  complete .subH (taking 4 (aluWith .sub (.reg .h))) s

/-- SUB L (R275). -/
def execSubL (s : State) : Host.Outcome State Fault Refusal :=
  complete .subL (taking 4 (aluWith .sub (.reg .l))) s

/-- SUB (HL) (R275). -/
def execSubMemHl (s : State) : Host.Outcome State Fault Refusal :=
  complete .subMemHl (taking 8 (aluWith .sub .memHl)) s

/-- SUB A (R275). -/
def execSubA (s : State) : Host.Outcome State Fault Refusal :=
  complete .subA (taking 4 (aluWith .sub (.reg .a))) s

/-- SBC A,B (R276). -/
def execSbcAB (s : State) : Host.Outcome State Fault Refusal :=
  complete .sbcAB (taking 4 (aluWith .sbc (.reg .b))) s

/-- SBC A,C (R276). -/
def execSbcAC (s : State) : Host.Outcome State Fault Refusal :=
  complete .sbcAC (taking 4 (aluWith .sbc (.reg .c))) s

/-- SBC A,D (R276). -/
def execSbcAD (s : State) : Host.Outcome State Fault Refusal :=
  complete .sbcAD (taking 4 (aluWith .sbc (.reg .d))) s

/-- SBC A,E (R276). -/
def execSbcAE (s : State) : Host.Outcome State Fault Refusal :=
  complete .sbcAE (taking 4 (aluWith .sbc (.reg .e))) s

/-- SBC A,H (R276). -/
def execSbcAH (s : State) : Host.Outcome State Fault Refusal :=
  complete .sbcAH (taking 4 (aluWith .sbc (.reg .h))) s

/-- SBC A,L (R276). -/
def execSbcAL (s : State) : Host.Outcome State Fault Refusal :=
  complete .sbcAL (taking 4 (aluWith .sbc (.reg .l))) s

/-- SBC A,(HL) (R276). -/
def execSbcAMemHl (s : State) : Host.Outcome State Fault Refusal :=
  complete .sbcAMemHl (taking 8 (aluWith .sbc .memHl)) s

/-- SBC A,A (R276). -/
def execSbcAA (s : State) : Host.Outcome State Fault Refusal :=
  complete .sbcAA (taking 4 (aluWith .sbc (.reg .a))) s

/-- AND B (R277). -/
def execAndB (s : State) : Host.Outcome State Fault Refusal :=
  complete .andB (taking 4 (aluWith .and (.reg .b))) s

/-- AND C (R277). -/
def execAndC (s : State) : Host.Outcome State Fault Refusal :=
  complete .andC (taking 4 (aluWith .and (.reg .c))) s

/-- AND D (R277). -/
def execAndD (s : State) : Host.Outcome State Fault Refusal :=
  complete .andD (taking 4 (aluWith .and (.reg .d))) s

/-- AND E (R277). -/
def execAndE (s : State) : Host.Outcome State Fault Refusal :=
  complete .andE (taking 4 (aluWith .and (.reg .e))) s

/-- AND H (R277). -/
def execAndH (s : State) : Host.Outcome State Fault Refusal :=
  complete .andH (taking 4 (aluWith .and (.reg .h))) s

/-- AND L (R277). -/
def execAndL (s : State) : Host.Outcome State Fault Refusal :=
  complete .andL (taking 4 (aluWith .and (.reg .l))) s

/-- AND (HL) (R277). -/
def execAndMemHl (s : State) : Host.Outcome State Fault Refusal :=
  complete .andMemHl (taking 8 (aluWith .and .memHl)) s

/-- AND A (R277). -/
def execAndA (s : State) : Host.Outcome State Fault Refusal :=
  complete .andA (taking 4 (aluWith .and (.reg .a))) s

/-- XOR B (R278). -/
def execXorB (s : State) : Host.Outcome State Fault Refusal :=
  complete .xorB (taking 4 (aluWith .xor (.reg .b))) s

/-- XOR C (R278). -/
def execXorC (s : State) : Host.Outcome State Fault Refusal :=
  complete .xorC (taking 4 (aluWith .xor (.reg .c))) s

/-- XOR D (R278). -/
def execXorD (s : State) : Host.Outcome State Fault Refusal :=
  complete .xorD (taking 4 (aluWith .xor (.reg .d))) s

/-- XOR E (R278). -/
def execXorE (s : State) : Host.Outcome State Fault Refusal :=
  complete .xorE (taking 4 (aluWith .xor (.reg .e))) s

/-- XOR H (R278). -/
def execXorH (s : State) : Host.Outcome State Fault Refusal :=
  complete .xorH (taking 4 (aluWith .xor (.reg .h))) s

/-- XOR L (R278). -/
def execXorL (s : State) : Host.Outcome State Fault Refusal :=
  complete .xorL (taking 4 (aluWith .xor (.reg .l))) s

/-- XOR (HL) (R278). -/
def execXorMemHl (s : State) : Host.Outcome State Fault Refusal :=
  complete .xorMemHl (taking 8 (aluWith .xor .memHl)) s

/-- XOR A (R278). -/
def execXorA (s : State) : Host.Outcome State Fault Refusal :=
  complete .xorA (taking 4 (aluWith .xor (.reg .a))) s

/-- OR B (R279). -/
def execOrB (s : State) : Host.Outcome State Fault Refusal :=
  complete .orB (taking 4 (aluWith .or (.reg .b))) s

/-- OR C (R279). -/
def execOrC (s : State) : Host.Outcome State Fault Refusal :=
  complete .orC (taking 4 (aluWith .or (.reg .c))) s

/-- OR D (R279). -/
def execOrD (s : State) : Host.Outcome State Fault Refusal :=
  complete .orD (taking 4 (aluWith .or (.reg .d))) s

/-- OR E (R279). -/
def execOrE (s : State) : Host.Outcome State Fault Refusal :=
  complete .orE (taking 4 (aluWith .or (.reg .e))) s

/-- OR H (R279). -/
def execOrH (s : State) : Host.Outcome State Fault Refusal :=
  complete .orH (taking 4 (aluWith .or (.reg .h))) s

/-- OR L (R279). -/
def execOrL (s : State) : Host.Outcome State Fault Refusal :=
  complete .orL (taking 4 (aluWith .or (.reg .l))) s

/-- OR (HL) (R279). -/
def execOrMemHl (s : State) : Host.Outcome State Fault Refusal :=
  complete .orMemHl (taking 8 (aluWith .or .memHl)) s

/-- OR A (R279). -/
def execOrA (s : State) : Host.Outcome State Fault Refusal :=
  complete .orA (taking 4 (aluWith .or (.reg .a))) s

/-- CP B (R280). -/
def execCpB (s : State) : Host.Outcome State Fault Refusal :=
  complete .cpB (taking 4 (aluWith .cp (.reg .b))) s

/-- CP C (R280). -/
def execCpC (s : State) : Host.Outcome State Fault Refusal :=
  complete .cpC (taking 4 (aluWith .cp (.reg .c))) s

/-- CP D (R280). -/
def execCpD (s : State) : Host.Outcome State Fault Refusal :=
  complete .cpD (taking 4 (aluWith .cp (.reg .d))) s

/-- CP E (R280). -/
def execCpE (s : State) : Host.Outcome State Fault Refusal :=
  complete .cpE (taking 4 (aluWith .cp (.reg .e))) s

/-- CP H (R280). -/
def execCpH (s : State) : Host.Outcome State Fault Refusal :=
  complete .cpH (taking 4 (aluWith .cp (.reg .h))) s

/-- CP L (R280). -/
def execCpL (s : State) : Host.Outcome State Fault Refusal :=
  complete .cpL (taking 4 (aluWith .cp (.reg .l))) s

/-- CP (HL) (R280). -/
def execCpMemHl (s : State) : Host.Outcome State Fault Refusal :=
  complete .cpMemHl (taking 8 (aluWith .cp .memHl)) s

/-- CP A (R280). -/
def execCpA (s : State) : Host.Outcome State Fault Refusal :=
  complete .cpA (taking 4 (aluWith .cp (.reg .a))) s

/-- ADD A,d8 (R273). -/
def execAddAD8 (n : Byte) (s : State) : Host.Outcome State Fault Refusal :=
  complete (.addAD8 n) (taking 8 (aluImm .add n)) s

/-- ADC A,d8 (R274). -/
def execAdcAD8 (n : Byte) (s : State) : Host.Outcome State Fault Refusal :=
  complete (.adcAD8 n) (taking 8 (aluImm .adc n)) s

/-- SUB d8 (R275). -/
def execSubD8 (n : Byte) (s : State) : Host.Outcome State Fault Refusal :=
  complete (.subD8 n) (taking 8 (aluImm .sub n)) s

/-- SBC A,d8 (R276). -/
def execSbcAD8 (n : Byte) (s : State) : Host.Outcome State Fault Refusal :=
  complete (.sbcAD8 n) (taking 8 (aluImm .sbc n)) s

/-- AND d8 (R277). -/
def execAndD8 (n : Byte) (s : State) : Host.Outcome State Fault Refusal :=
  complete (.andD8 n) (taking 8 (aluImm .and n)) s

/-- XOR d8 (R278). -/
def execXorD8 (n : Byte) (s : State) : Host.Outcome State Fault Refusal :=
  complete (.xorD8 n) (taking 8 (aluImm .xor n)) s

/-- OR d8 (R279). -/
def execOrD8 (n : Byte) (s : State) : Host.Outcome State Fault Refusal :=
  complete (.orD8 n) (taking 8 (aluImm .or n)) s

/-- CP d8 (R280). -/
def execCpD8 (n : Byte) (s : State) : Host.Outcome State Fault Refusal :=
  complete (.cpD8 n) (taking 8 (aluImm .cp n)) s

end Sys2Proof.Machine
end

