-- ==== Sys2Proof/Machine/Control.lean ====
section
/-! DEFINITION. Jumps, calls, returns and restarts (44_control.md). PC is the address after the whole
instruction when these run. No instruction here writes a flag. -/

namespace Sys2Proof.Machine

/-- `PC <- a` (R371). -/
def jump (addr : Word) : Exec Unit := update (State.setPc · addr)

/-- `PC <- HL` (R373). -/
def jumpHl : Exec Unit := update fun s => s.setPc s.hl

/-- `PC <- u16(PC + sext_16(e))` (R374). -/
def jumpRel (e : Byte) : Exec Unit := update fun s => s.setPc (s.pc + signExtendByte e)

/-- `Push16(PC); PC <- a` (R376): if a push write raises, PC is not changed to a. -/
def call (addr : Word) : Exec Unit := do
  let pc ← look State.pc
  push16 pc
  jump addr

/-- `PC <- Pop16()` (R378). -/
def return16 : Exec Unit := do
  let a ← pop16
  jump a

/-- `PC <- Pop16(); IME <- 1` (R380): if a read raises, IME is not written. -/
def returnEnable : Exec Unit := do
  return16
  update fun s => { s with ime := true }

/-- `Push16(PC); PC <- zext_16(y * 8)` (R381). -/
def restart (t : Octal) : Exec Unit := call (BitVec.ofNat 16 (t.value * 8))

/-- A conditional form: the pseudocode and its cycles if the condition holds, else the cycles of the form
not taken and nothing else (R370, 70_reset_and_hazards.md R486). -/
def branch (cc : Cond) (taken notTaken : Nat) (body : Exec Unit) : Exec Nat := do
  let ok ← look (State.holds · cc)
  if ok then taking taken body else pure notTaken

/-! One meaning per row of opcode_table.json, in the table's order. -/

/-- JR e8 (R374). -/
def execJrE8 (e : Byte) (s : State) : Host.Outcome State Fault Refusal :=
  complete (.jrE8 e) (taking 12 (jumpRel e)) s

/-- JR NZ,e8 (R375). -/
def execJrNzE8 (e : Byte) (s : State) : Host.Outcome State Fault Refusal :=
  complete (.jrNzE8 e) (branch .nz 12 8 (jumpRel e)) s

/-- JR Z,e8 (R375). -/
def execJrZE8 (e : Byte) (s : State) : Host.Outcome State Fault Refusal :=
  complete (.jrZE8 e) (branch .z 12 8 (jumpRel e)) s

/-- JR NC,e8 (R375). -/
def execJrNcE8 (e : Byte) (s : State) : Host.Outcome State Fault Refusal :=
  complete (.jrNcE8 e) (branch .nc 12 8 (jumpRel e)) s

/-- JR C,e8 (R375). -/
def execJrCE8 (e : Byte) (s : State) : Host.Outcome State Fault Refusal :=
  complete (.jrCE8 e) (branch .c 12 8 (jumpRel e)) s

/-- RET NZ (R379). -/
def execRetNz (s : State) : Host.Outcome State Fault Refusal :=
  complete .retNz (branch .nz 20 8 return16) s

/-- JP NZ,a16 (R372). -/
def execJpNzA16 (addr : Word) (s : State) : Host.Outcome State Fault Refusal :=
  complete (.jpNzA16 addr) (branch .nz 16 12 (jump addr)) s

/-- JP a16 (R371). -/
def execJpA16 (addr : Word) (s : State) : Host.Outcome State Fault Refusal :=
  complete (.jpA16 addr) (taking 16 (jump addr)) s

/-- CALL NZ,a16 (R377). -/
def execCallNzA16 (addr : Word) (s : State) : Host.Outcome State Fault Refusal :=
  complete (.callNzA16 addr) (branch .nz 24 12 (call addr)) s

/-- RST 0x00 (R381). -/
def execRst00 (s : State) : Host.Outcome State Fault Refusal :=
  complete .rst00 (taking 16 (restart .o0)) s

/-- RET Z (R379). -/
def execRetZ (s : State) : Host.Outcome State Fault Refusal :=
  complete .retZ (branch .z 20 8 return16) s

/-- RET (R378). -/
def execRet (s : State) : Host.Outcome State Fault Refusal :=
  complete .ret (taking 16 return16) s

/-- JP Z,a16 (R372). -/
def execJpZA16 (addr : Word) (s : State) : Host.Outcome State Fault Refusal :=
  complete (.jpZA16 addr) (branch .z 16 12 (jump addr)) s

/-- CALL Z,a16 (R377). -/
def execCallZA16 (addr : Word) (s : State) : Host.Outcome State Fault Refusal :=
  complete (.callZA16 addr) (branch .z 24 12 (call addr)) s

/-- CALL a16 (R376). -/
def execCallA16 (addr : Word) (s : State) : Host.Outcome State Fault Refusal :=
  complete (.callA16 addr) (taking 24 (call addr)) s

/-- RST 0x08 (R381). -/
def execRst08 (s : State) : Host.Outcome State Fault Refusal :=
  complete .rst08 (taking 16 (restart .o1)) s

/-- RET NC (R379). -/
def execRetNc (s : State) : Host.Outcome State Fault Refusal :=
  complete .retNc (branch .nc 20 8 return16) s

/-- JP NC,a16 (R372). -/
def execJpNcA16 (addr : Word) (s : State) : Host.Outcome State Fault Refusal :=
  complete (.jpNcA16 addr) (branch .nc 16 12 (jump addr)) s

/-- CALL NC,a16 (R377). -/
def execCallNcA16 (addr : Word) (s : State) : Host.Outcome State Fault Refusal :=
  complete (.callNcA16 addr) (branch .nc 24 12 (call addr)) s

/-- RST 0x10 (R381). -/
def execRst10 (s : State) : Host.Outcome State Fault Refusal :=
  complete .rst10 (taking 16 (restart .o2)) s

/-- RET C (R379). -/
def execRetC (s : State) : Host.Outcome State Fault Refusal :=
  complete .retC (branch .c 20 8 return16) s

/-- RETI (R380). -/
def execReti (s : State) : Host.Outcome State Fault Refusal :=
  complete .reti (taking 16 returnEnable) s

/-- JP C,a16 (R372). -/
def execJpCA16 (addr : Word) (s : State) : Host.Outcome State Fault Refusal :=
  complete (.jpCA16 addr) (branch .c 16 12 (jump addr)) s

/-- CALL C,a16 (R377). -/
def execCallCA16 (addr : Word) (s : State) : Host.Outcome State Fault Refusal :=
  complete (.callCA16 addr) (branch .c 24 12 (call addr)) s

/-- RST 0x18 (R381). -/
def execRst18 (s : State) : Host.Outcome State Fault Refusal :=
  complete .rst18 (taking 16 (restart .o3)) s

/-- RST 0x20 (R381). -/
def execRst20 (s : State) : Host.Outcome State Fault Refusal :=
  complete .rst20 (taking 16 (restart .o4)) s

/-- JP HL (R373). -/
def execJpHl (s : State) : Host.Outcome State Fault Refusal :=
  complete .jpHl (taking 4 jumpHl) s

/-- RST 0x28 (R381). -/
def execRst28 (s : State) : Host.Outcome State Fault Refusal :=
  complete .rst28 (taking 16 (restart .o5)) s

/-- RST 0x30 (R381). -/
def execRst30 (s : State) : Host.Outcome State Fault Refusal :=
  complete .rst30 (taking 16 (restart .o6)) s

/-- RST 0x38 (R381). -/
def execRst38 (s : State) : Host.Outcome State Fault Refusal :=
  complete .rst38 (taking 16 (restart .o7)) s

end Sys2Proof.Machine
end

