-- ==== Sys2Proof/Machine/Loads.lean ====
section
/-! DEFINITION. Loads, stores and stack (40_loads.md). No instruction here writes a flag except POP AF. -/

namespace Sys2Proof.Machine

/-- `x[y] <- x[z]` (R220). -/
def copyReg (dst src : Reg) : Exec Unit := update fun s => s.setReg dst (s.getReg src)

/-- `x[y] <- v` (R221). -/
def loadImm (r : Reg) (v : Byte) : Exec Unit := update (State.setReg · r v)

/-- LD A,(HL+) and LD A,(HL-): HL is stepped after the read (R235, R236). -/
def loadStep (delta : Word) : Exec Unit := do
  loadFrom .a State.hl
  stepHl delta

/-- LD (HL+),A and LD (HL-),A: HL is stepped after the write (R237, R238). -/
def storeStep (delta : Word) : Exec Unit := do
  storeTo State.hl State.a
  stepHl delta

/-- `rp[p] <- v` (R239). -/
def loadPair (p : Pair) (v : Word) : Exec Unit := update (State.setPair · p v)

/-- `MemWrite(a, 1, SP[7:0]); MemWrite(u16(a + 1), 1, SP[15:8])` (R240). -/
def storeSp (addr : Word) : Exec Unit := do
  let sp ← look State.sp
  memWrite addr (lowByte sp)
  memWrite (addr + 1#16) (highByte sp)

/-- `SP <- HL` (R241). -/
def loadSpHl : Exec Unit := update fun s => s.setSp s.hl

/-- `Push16(rp2[p])` (R243). -/
def pushPair (p : StackPair) : Exec Unit := do
  let v ← look (State.getStackPair · p)
  push16 v

/-- `v <- Pop16(); rp2[p] <- v` (R245): on an error the pair is not written. -/
def popPair (p : StackPair) : Exec Unit := do
  let v ← pop16
  update (State.setStackPair · p v)

/-! One meaning per row of opcode_table.json, in the table's order. -/

/-- LD BC,d16 (R239). -/
def execLdBcD16 (v : Word) (s : State) : Host.Outcome State Fault Refusal :=
  complete (.ldBcD16 v) (taking 12 (loadPair .bc v)) s

/-- LD (BC),A (R227). -/
def execLdMemBcA (s : State) : Host.Outcome State Fault Refusal :=
  complete .ldMemBcA (taking 8 (storeTo State.bc State.a)) s

/-- LD B,d8 (R221). -/
def execLdBD8 (n : Byte) (s : State) : Host.Outcome State Fault Refusal :=
  complete (.ldBD8 n) (taking 8 (loadImm .b n)) s

/-- LD (a16),SP (R240). -/
def execLdMemA16Sp (addr : Word) (s : State) : Host.Outcome State Fault Refusal :=
  complete (.ldMemA16Sp addr) (taking 20 (storeSp addr)) s

/-- LD A,(BC) (R225). -/
def execLdAMemBc (s : State) : Host.Outcome State Fault Refusal :=
  complete .ldAMemBc (taking 8 (loadFrom .a State.bc)) s

/-- LD C,d8 (R221). -/
def execLdCD8 (n : Byte) (s : State) : Host.Outcome State Fault Refusal :=
  complete (.ldCD8 n) (taking 8 (loadImm .c n)) s

/-- LD DE,d16 (R239). -/
def execLdDeD16 (v : Word) (s : State) : Host.Outcome State Fault Refusal :=
  complete (.ldDeD16 v) (taking 12 (loadPair .de v)) s

/-- LD (DE),A (R228). -/
def execLdMemDeA (s : State) : Host.Outcome State Fault Refusal :=
  complete .ldMemDeA (taking 8 (storeTo State.de State.a)) s

/-- LD D,d8 (R221). -/
def execLdDD8 (n : Byte) (s : State) : Host.Outcome State Fault Refusal :=
  complete (.ldDD8 n) (taking 8 (loadImm .d n)) s

/-- LD A,(DE) (R226). -/
def execLdAMemDe (s : State) : Host.Outcome State Fault Refusal :=
  complete .ldAMemDe (taking 8 (loadFrom .a State.de)) s

/-- LD E,d8 (R221). -/
def execLdED8 (n : Byte) (s : State) : Host.Outcome State Fault Refusal :=
  complete (.ldED8 n) (taking 8 (loadImm .e n)) s

/-- LD HL,d16 (R239). -/
def execLdHlD16 (v : Word) (s : State) : Host.Outcome State Fault Refusal :=
  complete (.ldHlD16 v) (taking 12 (loadPair .hl v)) s

/-- LD (HL+),A (R237). -/
def execLdMemHlIncA (s : State) : Host.Outcome State Fault Refusal :=
  complete .ldMemHlIncA (taking 8 (storeStep 1#16)) s

/-- LD H,d8 (R221). -/
def execLdHD8 (n : Byte) (s : State) : Host.Outcome State Fault Refusal :=
  complete (.ldHD8 n) (taking 8 (loadImm .h n)) s

/-- LD A,(HL+) (R235). -/
def execLdAMemHlInc (s : State) : Host.Outcome State Fault Refusal :=
  complete .ldAMemHlInc (taking 8 (loadStep 1#16)) s

/-- LD L,d8 (R221). -/
def execLdLD8 (n : Byte) (s : State) : Host.Outcome State Fault Refusal :=
  complete (.ldLD8 n) (taking 8 (loadImm .l n)) s

/-- LD SP,d16 (R239). -/
def execLdSpD16 (v : Word) (s : State) : Host.Outcome State Fault Refusal :=
  complete (.ldSpD16 v) (taking 12 (loadPair .sp v)) s

/-- LD (HL-),A (R238). -/
def execLdMemHlDecA (s : State) : Host.Outcome State Fault Refusal :=
  complete .ldMemHlDecA (taking 8 (storeStep (-1#16))) s

/-- LD (HL),d8 (R224). -/
def execLdMemHlD8 (n : Byte) (s : State) : Host.Outcome State Fault Refusal :=
  complete (.ldMemHlD8 n) (taking 12 (storeTo State.hl (fun _ => n))) s

/-- LD A,(HL-) (R236). -/
def execLdAMemHlDec (s : State) : Host.Outcome State Fault Refusal :=
  complete .ldAMemHlDec (taking 8 (loadStep (-1#16))) s

/-- LD A,d8 (R221). -/
def execLdAD8 (n : Byte) (s : State) : Host.Outcome State Fault Refusal :=
  complete (.ldAD8 n) (taking 8 (loadImm .a n)) s

/-- LD B,B (R220). -/
def execLdBB (s : State) : Host.Outcome State Fault Refusal :=
  complete .ldBB (taking 4 (copyReg .b .b)) s

/-- LD B,C (R220). -/
def execLdBC (s : State) : Host.Outcome State Fault Refusal :=
  complete .ldBC (taking 4 (copyReg .b .c)) s

/-- LD B,D (R220). -/
def execLdBD (s : State) : Host.Outcome State Fault Refusal :=
  complete .ldBD (taking 4 (copyReg .b .d)) s

/-- LD B,E (R220). -/
def execLdBE (s : State) : Host.Outcome State Fault Refusal :=
  complete .ldBE (taking 4 (copyReg .b .e)) s

/-- LD B,H (R220). -/
def execLdBH (s : State) : Host.Outcome State Fault Refusal :=
  complete .ldBH (taking 4 (copyReg .b .h)) s

/-- LD B,L (R220). -/
def execLdBL (s : State) : Host.Outcome State Fault Refusal :=
  complete .ldBL (taking 4 (copyReg .b .l)) s

/-- LD B,(HL) (R222). -/
def execLdBMemHl (s : State) : Host.Outcome State Fault Refusal :=
  complete .ldBMemHl (taking 8 (loadFrom .b State.hl)) s

/-- LD B,A (R220). -/
def execLdBA (s : State) : Host.Outcome State Fault Refusal :=
  complete .ldBA (taking 4 (copyReg .b .a)) s

/-- LD C,B (R220). -/
def execLdCB (s : State) : Host.Outcome State Fault Refusal :=
  complete .ldCB (taking 4 (copyReg .c .b)) s

/-- LD C,C (R220). -/
def execLdCC (s : State) : Host.Outcome State Fault Refusal :=
  complete .ldCC (taking 4 (copyReg .c .c)) s

/-- LD C,D (R220). -/
def execLdCD (s : State) : Host.Outcome State Fault Refusal :=
  complete .ldCD (taking 4 (copyReg .c .d)) s

/-- LD C,E (R220). -/
def execLdCE (s : State) : Host.Outcome State Fault Refusal :=
  complete .ldCE (taking 4 (copyReg .c .e)) s

/-- LD C,H (R220). -/
def execLdCH (s : State) : Host.Outcome State Fault Refusal :=
  complete .ldCH (taking 4 (copyReg .c .h)) s

/-- LD C,L (R220). -/
def execLdCL (s : State) : Host.Outcome State Fault Refusal :=
  complete .ldCL (taking 4 (copyReg .c .l)) s

/-- LD C,(HL) (R222). -/
def execLdCMemHl (s : State) : Host.Outcome State Fault Refusal :=
  complete .ldCMemHl (taking 8 (loadFrom .c State.hl)) s

/-- LD C,A (R220). -/
def execLdCA (s : State) : Host.Outcome State Fault Refusal :=
  complete .ldCA (taking 4 (copyReg .c .a)) s

/-- LD D,B (R220). -/
def execLdDB (s : State) : Host.Outcome State Fault Refusal :=
  complete .ldDB (taking 4 (copyReg .d .b)) s

/-- LD D,C (R220). -/
def execLdDC (s : State) : Host.Outcome State Fault Refusal :=
  complete .ldDC (taking 4 (copyReg .d .c)) s

/-- LD D,D (R220). -/
def execLdDD (s : State) : Host.Outcome State Fault Refusal :=
  complete .ldDD (taking 4 (copyReg .d .d)) s

/-- LD D,E (R220). -/
def execLdDE (s : State) : Host.Outcome State Fault Refusal :=
  complete .ldDE (taking 4 (copyReg .d .e)) s

/-- LD D,H (R220). -/
def execLdDH (s : State) : Host.Outcome State Fault Refusal :=
  complete .ldDH (taking 4 (copyReg .d .h)) s

/-- LD D,L (R220). -/
def execLdDL (s : State) : Host.Outcome State Fault Refusal :=
  complete .ldDL (taking 4 (copyReg .d .l)) s

/-- LD D,(HL) (R222). -/
def execLdDMemHl (s : State) : Host.Outcome State Fault Refusal :=
  complete .ldDMemHl (taking 8 (loadFrom .d State.hl)) s

/-- LD D,A (R220). -/
def execLdDA (s : State) : Host.Outcome State Fault Refusal :=
  complete .ldDA (taking 4 (copyReg .d .a)) s

/-- LD E,B (R220). -/
def execLdEB (s : State) : Host.Outcome State Fault Refusal :=
  complete .ldEB (taking 4 (copyReg .e .b)) s

/-- LD E,C (R220). -/
def execLdEC (s : State) : Host.Outcome State Fault Refusal :=
  complete .ldEC (taking 4 (copyReg .e .c)) s

/-- LD E,D (R220). -/
def execLdED (s : State) : Host.Outcome State Fault Refusal :=
  complete .ldED (taking 4 (copyReg .e .d)) s

/-- LD E,E (R220). -/
def execLdEE (s : State) : Host.Outcome State Fault Refusal :=
  complete .ldEE (taking 4 (copyReg .e .e)) s

/-- LD E,H (R220). -/
def execLdEH (s : State) : Host.Outcome State Fault Refusal :=
  complete .ldEH (taking 4 (copyReg .e .h)) s

/-- LD E,L (R220). -/
def execLdEL (s : State) : Host.Outcome State Fault Refusal :=
  complete .ldEL (taking 4 (copyReg .e .l)) s

/-- LD E,(HL) (R222). -/
def execLdEMemHl (s : State) : Host.Outcome State Fault Refusal :=
  complete .ldEMemHl (taking 8 (loadFrom .e State.hl)) s

/-- LD E,A (R220). -/
def execLdEA (s : State) : Host.Outcome State Fault Refusal :=
  complete .ldEA (taking 4 (copyReg .e .a)) s

/-- LD H,B (R220). -/
def execLdHB (s : State) : Host.Outcome State Fault Refusal :=
  complete .ldHB (taking 4 (copyReg .h .b)) s

/-- LD H,C (R220). -/
def execLdHC (s : State) : Host.Outcome State Fault Refusal :=
  complete .ldHC (taking 4 (copyReg .h .c)) s

/-- LD H,D (R220). -/
def execLdHD (s : State) : Host.Outcome State Fault Refusal :=
  complete .ldHD (taking 4 (copyReg .h .d)) s

/-- LD H,E (R220). -/
def execLdHE (s : State) : Host.Outcome State Fault Refusal :=
  complete .ldHE (taking 4 (copyReg .h .e)) s

/-- LD H,H (R220). -/
def execLdHH (s : State) : Host.Outcome State Fault Refusal :=
  complete .ldHH (taking 4 (copyReg .h .h)) s

/-- LD H,L (R220). -/
def execLdHL (s : State) : Host.Outcome State Fault Refusal :=
  complete .ldHL (taking 4 (copyReg .h .l)) s

/-- LD H,(HL) (R222). -/
def execLdHMemHl (s : State) : Host.Outcome State Fault Refusal :=
  complete .ldHMemHl (taking 8 (loadFrom .h State.hl)) s

/-- LD H,A (R220). -/
def execLdHA (s : State) : Host.Outcome State Fault Refusal :=
  complete .ldHA (taking 4 (copyReg .h .a)) s

/-- LD L,B (R220). -/
def execLdLB (s : State) : Host.Outcome State Fault Refusal :=
  complete .ldLB (taking 4 (copyReg .l .b)) s

/-- LD L,C (R220). -/
def execLdLC (s : State) : Host.Outcome State Fault Refusal :=
  complete .ldLC (taking 4 (copyReg .l .c)) s

/-- LD L,D (R220). -/
def execLdLD (s : State) : Host.Outcome State Fault Refusal :=
  complete .ldLD (taking 4 (copyReg .l .d)) s

/-- LD L,E (R220). -/
def execLdLE (s : State) : Host.Outcome State Fault Refusal :=
  complete .ldLE (taking 4 (copyReg .l .e)) s

/-- LD L,H (R220). -/
def execLdLH (s : State) : Host.Outcome State Fault Refusal :=
  complete .ldLH (taking 4 (copyReg .l .h)) s

/-- LD L,L (R220). -/
def execLdLL (s : State) : Host.Outcome State Fault Refusal :=
  complete .ldLL (taking 4 (copyReg .l .l)) s

/-- LD L,(HL) (R222). -/
def execLdLMemHl (s : State) : Host.Outcome State Fault Refusal :=
  complete .ldLMemHl (taking 8 (loadFrom .l State.hl)) s

/-- LD L,A (R220). -/
def execLdLA (s : State) : Host.Outcome State Fault Refusal :=
  complete .ldLA (taking 4 (copyReg .l .a)) s

/-- LD (HL),B (R223). -/
def execLdMemHlB (s : State) : Host.Outcome State Fault Refusal :=
  complete .ldMemHlB (taking 8 (storeTo State.hl (State.getReg · .b))) s

/-- LD (HL),C (R223). -/
def execLdMemHlC (s : State) : Host.Outcome State Fault Refusal :=
  complete .ldMemHlC (taking 8 (storeTo State.hl (State.getReg · .c))) s

/-- LD (HL),D (R223). -/
def execLdMemHlD (s : State) : Host.Outcome State Fault Refusal :=
  complete .ldMemHlD (taking 8 (storeTo State.hl (State.getReg · .d))) s

/-- LD (HL),E (R223). -/
def execLdMemHlE (s : State) : Host.Outcome State Fault Refusal :=
  complete .ldMemHlE (taking 8 (storeTo State.hl (State.getReg · .e))) s

/-- LD (HL),H (R223). -/
def execLdMemHlH (s : State) : Host.Outcome State Fault Refusal :=
  complete .ldMemHlH (taking 8 (storeTo State.hl (State.getReg · .h))) s

/-- LD (HL),L (R223). -/
def execLdMemHlL (s : State) : Host.Outcome State Fault Refusal :=
  complete .ldMemHlL (taking 8 (storeTo State.hl (State.getReg · .l))) s

/-- LD (HL),A (R223). -/
def execLdMemHlA (s : State) : Host.Outcome State Fault Refusal :=
  complete .ldMemHlA (taking 8 (storeTo State.hl (State.getReg · .a))) s

/-- LD A,B (R220). -/
def execLdAB (s : State) : Host.Outcome State Fault Refusal :=
  complete .ldAB (taking 4 (copyReg .a .b)) s

/-- LD A,C (R220). -/
def execLdAC (s : State) : Host.Outcome State Fault Refusal :=
  complete .ldAC (taking 4 (copyReg .a .c)) s

/-- LD A,D (R220). -/
def execLdAD (s : State) : Host.Outcome State Fault Refusal :=
  complete .ldAD (taking 4 (copyReg .a .d)) s

/-- LD A,E (R220). -/
def execLdAE (s : State) : Host.Outcome State Fault Refusal :=
  complete .ldAE (taking 4 (copyReg .a .e)) s

/-- LD A,H (R220). -/
def execLdAH (s : State) : Host.Outcome State Fault Refusal :=
  complete .ldAH (taking 4 (copyReg .a .h)) s

/-- LD A,L (R220). -/
def execLdAL (s : State) : Host.Outcome State Fault Refusal :=
  complete .ldAL (taking 4 (copyReg .a .l)) s

/-- LD A,(HL) (R222). -/
def execLdAMemHl (s : State) : Host.Outcome State Fault Refusal :=
  complete .ldAMemHl (taking 8 (loadFrom .a State.hl)) s

/-- LD A,A (R220). -/
def execLdAA (s : State) : Host.Outcome State Fault Refusal :=
  complete .ldAA (taking 4 (copyReg .a .a)) s

/-- POP BC (R245). -/
def execPopBc (s : State) : Host.Outcome State Fault Refusal :=
  complete .popBc (taking 12 (popPair .bc)) s

/-- PUSH BC (R243). -/
def execPushBc (s : State) : Host.Outcome State Fault Refusal :=
  complete .pushBc (taking 16 (pushPair .bc)) s

/-- POP DE (R245). -/
def execPopDe (s : State) : Host.Outcome State Fault Refusal :=
  complete .popDe (taking 12 (popPair .de)) s

/-- PUSH DE (R243). -/
def execPushDe (s : State) : Host.Outcome State Fault Refusal :=
  complete .pushDe (taking 16 (pushPair .de)) s

/-- LDH (a8),A (R232). -/
def execLdhMemA8A (n : Byte) (s : State) : Host.Outcome State Fault Refusal :=
  complete (.ldhMemA8A n) (taking 12 (storeTo (fun _ => highPage n) State.a)) s

/-- POP HL (R245). -/
def execPopHl (s : State) : Host.Outcome State Fault Refusal :=
  complete .popHl (taking 12 (popPair .hl)) s

/-- LD (C),A (R234). -/
def execLdMemCA (s : State) : Host.Outcome State Fault Refusal :=
  complete .ldMemCA (taking 8 (storeTo (fun s => highPage s.c) State.a)) s

/-- PUSH HL (R243). -/
def execPushHl (s : State) : Host.Outcome State Fault Refusal :=
  complete .pushHl (taking 16 (pushPair .hl)) s

/-- LD (a16),A (R230). -/
def execLdMemA16A (addr : Word) (s : State) : Host.Outcome State Fault Refusal :=
  complete (.ldMemA16A addr) (taking 16 (storeTo (fun _ => addr) State.a)) s

/-- LDH A,(a8) (R231). -/
def execLdhAMemA8 (n : Byte) (s : State) : Host.Outcome State Fault Refusal :=
  complete (.ldhAMemA8 n) (taking 12 (loadFrom .a (fun _ => highPage n))) s

/-- POP AF (R245). -/
def execPopAf (s : State) : Host.Outcome State Fault Refusal :=
  complete .popAf (taking 12 (popPair .af)) s

/-- LD A,(C) (R233). -/
def execLdAMemC (s : State) : Host.Outcome State Fault Refusal :=
  complete .ldAMemC (taking 8 (loadFrom .a (fun s => highPage s.c))) s

/-- PUSH AF (R243). -/
def execPushAf (s : State) : Host.Outcome State Fault Refusal :=
  complete .pushAf (taking 16 (pushPair .af)) s

/-- LD SP,HL (R241). -/
def execLdSpHl (s : State) : Host.Outcome State Fault Refusal :=
  complete .ldSpHl (taking 8 loadSpHl) s

/-- LD A,(a16) (R229). -/
def execLdAMemA16 (addr : Word) (s : State) : Host.Outcome State Fault Refusal :=
  complete (.ldAMemA16 addr) (taking 16 (loadFrom .a (fun _ => addr))) s

end Sys2Proof.Machine
end

