-- ==== Sys2Proof/Machine/Bits.lean ====
section
/-! DEFINITION. Bit test, reset and set (43_rotate_shift_bit.md R344-R346). -/

namespace Sys2Proof.Machine

/-- BIT b,r: Z from the tested bit, N = 0, Hf = 1, Cy stays; the operand is never written (R344). -/
def testBit (b : Octal) (o : Operand) : Exec Unit := do
  let v ← readOperand o
  update fun s => s.setFlags (!v.getLsbD b.value) false true (s.flag .carry)

/-- RES b,r: no flag; the operand is written even if the bit is 0 already (R345). -/
def resetBit (b : Octal) (o : Operand) : Exec Unit := do
  let v ← readOperand o
  writeOperand o (v &&& ~~~bitMask b)

/-- SET b,r (R346). -/
def setBit (b : Octal) (o : Operand) : Exec Unit := do
  let v ← readOperand o
  writeOperand o (v ||| bitMask b)

/-! One meaning per row of opcode_table.json, in the table's order. -/

/-- BIT 0,B (R344). -/
def execBit0B (s : State) : Host.Outcome State Fault Refusal :=
  complete .bit0B (taking 8 (testBit .o0 (.reg .b))) s

/-- BIT 0,C (R344). -/
def execBit0C (s : State) : Host.Outcome State Fault Refusal :=
  complete .bit0C (taking 8 (testBit .o0 (.reg .c))) s

/-- BIT 0,D (R344). -/
def execBit0D (s : State) : Host.Outcome State Fault Refusal :=
  complete .bit0D (taking 8 (testBit .o0 (.reg .d))) s

/-- BIT 0,E (R344). -/
def execBit0E (s : State) : Host.Outcome State Fault Refusal :=
  complete .bit0E (taking 8 (testBit .o0 (.reg .e))) s

/-- BIT 0,H (R344). -/
def execBit0H (s : State) : Host.Outcome State Fault Refusal :=
  complete .bit0H (taking 8 (testBit .o0 (.reg .h))) s

/-- BIT 0,L (R344). -/
def execBit0L (s : State) : Host.Outcome State Fault Refusal :=
  complete .bit0L (taking 8 (testBit .o0 (.reg .l))) s

/-- BIT 0,(HL) (R344). -/
def execBit0MemHl (s : State) : Host.Outcome State Fault Refusal :=
  complete .bit0MemHl (taking 12 (testBit .o0 .memHl)) s

/-- BIT 0,A (R344). -/
def execBit0A (s : State) : Host.Outcome State Fault Refusal :=
  complete .bit0A (taking 8 (testBit .o0 (.reg .a))) s

/-- BIT 1,B (R344). -/
def execBit1B (s : State) : Host.Outcome State Fault Refusal :=
  complete .bit1B (taking 8 (testBit .o1 (.reg .b))) s

/-- BIT 1,C (R344). -/
def execBit1C (s : State) : Host.Outcome State Fault Refusal :=
  complete .bit1C (taking 8 (testBit .o1 (.reg .c))) s

/-- BIT 1,D (R344). -/
def execBit1D (s : State) : Host.Outcome State Fault Refusal :=
  complete .bit1D (taking 8 (testBit .o1 (.reg .d))) s

/-- BIT 1,E (R344). -/
def execBit1E (s : State) : Host.Outcome State Fault Refusal :=
  complete .bit1E (taking 8 (testBit .o1 (.reg .e))) s

/-- BIT 1,H (R344). -/
def execBit1H (s : State) : Host.Outcome State Fault Refusal :=
  complete .bit1H (taking 8 (testBit .o1 (.reg .h))) s

/-- BIT 1,L (R344). -/
def execBit1L (s : State) : Host.Outcome State Fault Refusal :=
  complete .bit1L (taking 8 (testBit .o1 (.reg .l))) s

/-- BIT 1,(HL) (R344). -/
def execBit1MemHl (s : State) : Host.Outcome State Fault Refusal :=
  complete .bit1MemHl (taking 12 (testBit .o1 .memHl)) s

/-- BIT 1,A (R344). -/
def execBit1A (s : State) : Host.Outcome State Fault Refusal :=
  complete .bit1A (taking 8 (testBit .o1 (.reg .a))) s

/-- BIT 2,B (R344). -/
def execBit2B (s : State) : Host.Outcome State Fault Refusal :=
  complete .bit2B (taking 8 (testBit .o2 (.reg .b))) s

/-- BIT 2,C (R344). -/
def execBit2C (s : State) : Host.Outcome State Fault Refusal :=
  complete .bit2C (taking 8 (testBit .o2 (.reg .c))) s

/-- BIT 2,D (R344). -/
def execBit2D (s : State) : Host.Outcome State Fault Refusal :=
  complete .bit2D (taking 8 (testBit .o2 (.reg .d))) s

/-- BIT 2,E (R344). -/
def execBit2E (s : State) : Host.Outcome State Fault Refusal :=
  complete .bit2E (taking 8 (testBit .o2 (.reg .e))) s

/-- BIT 2,H (R344). -/
def execBit2H (s : State) : Host.Outcome State Fault Refusal :=
  complete .bit2H (taking 8 (testBit .o2 (.reg .h))) s

/-- BIT 2,L (R344). -/
def execBit2L (s : State) : Host.Outcome State Fault Refusal :=
  complete .bit2L (taking 8 (testBit .o2 (.reg .l))) s

/-- BIT 2,(HL) (R344). -/
def execBit2MemHl (s : State) : Host.Outcome State Fault Refusal :=
  complete .bit2MemHl (taking 12 (testBit .o2 .memHl)) s

/-- BIT 2,A (R344). -/
def execBit2A (s : State) : Host.Outcome State Fault Refusal :=
  complete .bit2A (taking 8 (testBit .o2 (.reg .a))) s

/-- BIT 3,B (R344). -/
def execBit3B (s : State) : Host.Outcome State Fault Refusal :=
  complete .bit3B (taking 8 (testBit .o3 (.reg .b))) s

/-- BIT 3,C (R344). -/
def execBit3C (s : State) : Host.Outcome State Fault Refusal :=
  complete .bit3C (taking 8 (testBit .o3 (.reg .c))) s

/-- BIT 3,D (R344). -/
def execBit3D (s : State) : Host.Outcome State Fault Refusal :=
  complete .bit3D (taking 8 (testBit .o3 (.reg .d))) s

/-- BIT 3,E (R344). -/
def execBit3E (s : State) : Host.Outcome State Fault Refusal :=
  complete .bit3E (taking 8 (testBit .o3 (.reg .e))) s

/-- BIT 3,H (R344). -/
def execBit3H (s : State) : Host.Outcome State Fault Refusal :=
  complete .bit3H (taking 8 (testBit .o3 (.reg .h))) s

/-- BIT 3,L (R344). -/
def execBit3L (s : State) : Host.Outcome State Fault Refusal :=
  complete .bit3L (taking 8 (testBit .o3 (.reg .l))) s

/-- BIT 3,(HL) (R344). -/
def execBit3MemHl (s : State) : Host.Outcome State Fault Refusal :=
  complete .bit3MemHl (taking 12 (testBit .o3 .memHl)) s

/-- BIT 3,A (R344). -/
def execBit3A (s : State) : Host.Outcome State Fault Refusal :=
  complete .bit3A (taking 8 (testBit .o3 (.reg .a))) s

/-- BIT 4,B (R344). -/
def execBit4B (s : State) : Host.Outcome State Fault Refusal :=
  complete .bit4B (taking 8 (testBit .o4 (.reg .b))) s

/-- BIT 4,C (R344). -/
def execBit4C (s : State) : Host.Outcome State Fault Refusal :=
  complete .bit4C (taking 8 (testBit .o4 (.reg .c))) s

/-- BIT 4,D (R344). -/
def execBit4D (s : State) : Host.Outcome State Fault Refusal :=
  complete .bit4D (taking 8 (testBit .o4 (.reg .d))) s

/-- BIT 4,E (R344). -/
def execBit4E (s : State) : Host.Outcome State Fault Refusal :=
  complete .bit4E (taking 8 (testBit .o4 (.reg .e))) s

/-- BIT 4,H (R344). -/
def execBit4H (s : State) : Host.Outcome State Fault Refusal :=
  complete .bit4H (taking 8 (testBit .o4 (.reg .h))) s

/-- BIT 4,L (R344). -/
def execBit4L (s : State) : Host.Outcome State Fault Refusal :=
  complete .bit4L (taking 8 (testBit .o4 (.reg .l))) s

/-- BIT 4,(HL) (R344). -/
def execBit4MemHl (s : State) : Host.Outcome State Fault Refusal :=
  complete .bit4MemHl (taking 12 (testBit .o4 .memHl)) s

/-- BIT 4,A (R344). -/
def execBit4A (s : State) : Host.Outcome State Fault Refusal :=
  complete .bit4A (taking 8 (testBit .o4 (.reg .a))) s

/-- BIT 5,B (R344). -/
def execBit5B (s : State) : Host.Outcome State Fault Refusal :=
  complete .bit5B (taking 8 (testBit .o5 (.reg .b))) s

/-- BIT 5,C (R344). -/
def execBit5C (s : State) : Host.Outcome State Fault Refusal :=
  complete .bit5C (taking 8 (testBit .o5 (.reg .c))) s

/-- BIT 5,D (R344). -/
def execBit5D (s : State) : Host.Outcome State Fault Refusal :=
  complete .bit5D (taking 8 (testBit .o5 (.reg .d))) s

/-- BIT 5,E (R344). -/
def execBit5E (s : State) : Host.Outcome State Fault Refusal :=
  complete .bit5E (taking 8 (testBit .o5 (.reg .e))) s

/-- BIT 5,H (R344). -/
def execBit5H (s : State) : Host.Outcome State Fault Refusal :=
  complete .bit5H (taking 8 (testBit .o5 (.reg .h))) s

/-- BIT 5,L (R344). -/
def execBit5L (s : State) : Host.Outcome State Fault Refusal :=
  complete .bit5L (taking 8 (testBit .o5 (.reg .l))) s

/-- BIT 5,(HL) (R344). -/
def execBit5MemHl (s : State) : Host.Outcome State Fault Refusal :=
  complete .bit5MemHl (taking 12 (testBit .o5 .memHl)) s

/-- BIT 5,A (R344). -/
def execBit5A (s : State) : Host.Outcome State Fault Refusal :=
  complete .bit5A (taking 8 (testBit .o5 (.reg .a))) s

/-- BIT 6,B (R344). -/
def execBit6B (s : State) : Host.Outcome State Fault Refusal :=
  complete .bit6B (taking 8 (testBit .o6 (.reg .b))) s

/-- BIT 6,C (R344). -/
def execBit6C (s : State) : Host.Outcome State Fault Refusal :=
  complete .bit6C (taking 8 (testBit .o6 (.reg .c))) s

/-- BIT 6,D (R344). -/
def execBit6D (s : State) : Host.Outcome State Fault Refusal :=
  complete .bit6D (taking 8 (testBit .o6 (.reg .d))) s

/-- BIT 6,E (R344). -/
def execBit6E (s : State) : Host.Outcome State Fault Refusal :=
  complete .bit6E (taking 8 (testBit .o6 (.reg .e))) s

/-- BIT 6,H (R344). -/
def execBit6H (s : State) : Host.Outcome State Fault Refusal :=
  complete .bit6H (taking 8 (testBit .o6 (.reg .h))) s

/-- BIT 6,L (R344). -/
def execBit6L (s : State) : Host.Outcome State Fault Refusal :=
  complete .bit6L (taking 8 (testBit .o6 (.reg .l))) s

/-- BIT 6,(HL) (R344). -/
def execBit6MemHl (s : State) : Host.Outcome State Fault Refusal :=
  complete .bit6MemHl (taking 12 (testBit .o6 .memHl)) s

/-- BIT 6,A (R344). -/
def execBit6A (s : State) : Host.Outcome State Fault Refusal :=
  complete .bit6A (taking 8 (testBit .o6 (.reg .a))) s

/-- BIT 7,B (R344). -/
def execBit7B (s : State) : Host.Outcome State Fault Refusal :=
  complete .bit7B (taking 8 (testBit .o7 (.reg .b))) s

/-- BIT 7,C (R344). -/
def execBit7C (s : State) : Host.Outcome State Fault Refusal :=
  complete .bit7C (taking 8 (testBit .o7 (.reg .c))) s

/-- BIT 7,D (R344). -/
def execBit7D (s : State) : Host.Outcome State Fault Refusal :=
  complete .bit7D (taking 8 (testBit .o7 (.reg .d))) s

/-- BIT 7,E (R344). -/
def execBit7E (s : State) : Host.Outcome State Fault Refusal :=
  complete .bit7E (taking 8 (testBit .o7 (.reg .e))) s

/-- BIT 7,H (R344). -/
def execBit7H (s : State) : Host.Outcome State Fault Refusal :=
  complete .bit7H (taking 8 (testBit .o7 (.reg .h))) s

/-- BIT 7,L (R344). -/
def execBit7L (s : State) : Host.Outcome State Fault Refusal :=
  complete .bit7L (taking 8 (testBit .o7 (.reg .l))) s

/-- BIT 7,(HL) (R344). -/
def execBit7MemHl (s : State) : Host.Outcome State Fault Refusal :=
  complete .bit7MemHl (taking 12 (testBit .o7 .memHl)) s

/-- BIT 7,A (R344). -/
def execBit7A (s : State) : Host.Outcome State Fault Refusal :=
  complete .bit7A (taking 8 (testBit .o7 (.reg .a))) s

/-- RES 0,B (R345). -/
def execRes0B (s : State) : Host.Outcome State Fault Refusal :=
  complete .res0B (taking 8 (resetBit .o0 (.reg .b))) s

/-- RES 0,C (R345). -/
def execRes0C (s : State) : Host.Outcome State Fault Refusal :=
  complete .res0C (taking 8 (resetBit .o0 (.reg .c))) s

/-- RES 0,D (R345). -/
def execRes0D (s : State) : Host.Outcome State Fault Refusal :=
  complete .res0D (taking 8 (resetBit .o0 (.reg .d))) s

/-- RES 0,E (R345). -/
def execRes0E (s : State) : Host.Outcome State Fault Refusal :=
  complete .res0E (taking 8 (resetBit .o0 (.reg .e))) s

/-- RES 0,H (R345). -/
def execRes0H (s : State) : Host.Outcome State Fault Refusal :=
  complete .res0H (taking 8 (resetBit .o0 (.reg .h))) s

/-- RES 0,L (R345). -/
def execRes0L (s : State) : Host.Outcome State Fault Refusal :=
  complete .res0L (taking 8 (resetBit .o0 (.reg .l))) s

/-- RES 0,(HL) (R345). -/
def execRes0MemHl (s : State) : Host.Outcome State Fault Refusal :=
  complete .res0MemHl (taking 16 (resetBit .o0 .memHl)) s

/-- RES 0,A (R345). -/
def execRes0A (s : State) : Host.Outcome State Fault Refusal :=
  complete .res0A (taking 8 (resetBit .o0 (.reg .a))) s

/-- RES 1,B (R345). -/
def execRes1B (s : State) : Host.Outcome State Fault Refusal :=
  complete .res1B (taking 8 (resetBit .o1 (.reg .b))) s

/-- RES 1,C (R345). -/
def execRes1C (s : State) : Host.Outcome State Fault Refusal :=
  complete .res1C (taking 8 (resetBit .o1 (.reg .c))) s

/-- RES 1,D (R345). -/
def execRes1D (s : State) : Host.Outcome State Fault Refusal :=
  complete .res1D (taking 8 (resetBit .o1 (.reg .d))) s

/-- RES 1,E (R345). -/
def execRes1E (s : State) : Host.Outcome State Fault Refusal :=
  complete .res1E (taking 8 (resetBit .o1 (.reg .e))) s

/-- RES 1,H (R345). -/
def execRes1H (s : State) : Host.Outcome State Fault Refusal :=
  complete .res1H (taking 8 (resetBit .o1 (.reg .h))) s

/-- RES 1,L (R345). -/
def execRes1L (s : State) : Host.Outcome State Fault Refusal :=
  complete .res1L (taking 8 (resetBit .o1 (.reg .l))) s

/-- RES 1,(HL) (R345). -/
def execRes1MemHl (s : State) : Host.Outcome State Fault Refusal :=
  complete .res1MemHl (taking 16 (resetBit .o1 .memHl)) s

/-- RES 1,A (R345). -/
def execRes1A (s : State) : Host.Outcome State Fault Refusal :=
  complete .res1A (taking 8 (resetBit .o1 (.reg .a))) s

/-- RES 2,B (R345). -/
def execRes2B (s : State) : Host.Outcome State Fault Refusal :=
  complete .res2B (taking 8 (resetBit .o2 (.reg .b))) s

/-- RES 2,C (R345). -/
def execRes2C (s : State) : Host.Outcome State Fault Refusal :=
  complete .res2C (taking 8 (resetBit .o2 (.reg .c))) s

/-- RES 2,D (R345). -/
def execRes2D (s : State) : Host.Outcome State Fault Refusal :=
  complete .res2D (taking 8 (resetBit .o2 (.reg .d))) s

/-- RES 2,E (R345). -/
def execRes2E (s : State) : Host.Outcome State Fault Refusal :=
  complete .res2E (taking 8 (resetBit .o2 (.reg .e))) s

/-- RES 2,H (R345). -/
def execRes2H (s : State) : Host.Outcome State Fault Refusal :=
  complete .res2H (taking 8 (resetBit .o2 (.reg .h))) s

/-- RES 2,L (R345). -/
def execRes2L (s : State) : Host.Outcome State Fault Refusal :=
  complete .res2L (taking 8 (resetBit .o2 (.reg .l))) s

/-- RES 2,(HL) (R345). -/
def execRes2MemHl (s : State) : Host.Outcome State Fault Refusal :=
  complete .res2MemHl (taking 16 (resetBit .o2 .memHl)) s

/-- RES 2,A (R345). -/
def execRes2A (s : State) : Host.Outcome State Fault Refusal :=
  complete .res2A (taking 8 (resetBit .o2 (.reg .a))) s

/-- RES 3,B (R345). -/
def execRes3B (s : State) : Host.Outcome State Fault Refusal :=
  complete .res3B (taking 8 (resetBit .o3 (.reg .b))) s

/-- RES 3,C (R345). -/
def execRes3C (s : State) : Host.Outcome State Fault Refusal :=
  complete .res3C (taking 8 (resetBit .o3 (.reg .c))) s

/-- RES 3,D (R345). -/
def execRes3D (s : State) : Host.Outcome State Fault Refusal :=
  complete .res3D (taking 8 (resetBit .o3 (.reg .d))) s

/-- RES 3,E (R345). -/
def execRes3E (s : State) : Host.Outcome State Fault Refusal :=
  complete .res3E (taking 8 (resetBit .o3 (.reg .e))) s

/-- RES 3,H (R345). -/
def execRes3H (s : State) : Host.Outcome State Fault Refusal :=
  complete .res3H (taking 8 (resetBit .o3 (.reg .h))) s

/-- RES 3,L (R345). -/
def execRes3L (s : State) : Host.Outcome State Fault Refusal :=
  complete .res3L (taking 8 (resetBit .o3 (.reg .l))) s

/-- RES 3,(HL) (R345). -/
def execRes3MemHl (s : State) : Host.Outcome State Fault Refusal :=
  complete .res3MemHl (taking 16 (resetBit .o3 .memHl)) s

/-- RES 3,A (R345). -/
def execRes3A (s : State) : Host.Outcome State Fault Refusal :=
  complete .res3A (taking 8 (resetBit .o3 (.reg .a))) s

/-- RES 4,B (R345). -/
def execRes4B (s : State) : Host.Outcome State Fault Refusal :=
  complete .res4B (taking 8 (resetBit .o4 (.reg .b))) s

/-- RES 4,C (R345). -/
def execRes4C (s : State) : Host.Outcome State Fault Refusal :=
  complete .res4C (taking 8 (resetBit .o4 (.reg .c))) s

/-- RES 4,D (R345). -/
def execRes4D (s : State) : Host.Outcome State Fault Refusal :=
  complete .res4D (taking 8 (resetBit .o4 (.reg .d))) s

/-- RES 4,E (R345). -/
def execRes4E (s : State) : Host.Outcome State Fault Refusal :=
  complete .res4E (taking 8 (resetBit .o4 (.reg .e))) s

/-- RES 4,H (R345). -/
def execRes4H (s : State) : Host.Outcome State Fault Refusal :=
  complete .res4H (taking 8 (resetBit .o4 (.reg .h))) s

/-- RES 4,L (R345). -/
def execRes4L (s : State) : Host.Outcome State Fault Refusal :=
  complete .res4L (taking 8 (resetBit .o4 (.reg .l))) s

/-- RES 4,(HL) (R345). -/
def execRes4MemHl (s : State) : Host.Outcome State Fault Refusal :=
  complete .res4MemHl (taking 16 (resetBit .o4 .memHl)) s

/-- RES 4,A (R345). -/
def execRes4A (s : State) : Host.Outcome State Fault Refusal :=
  complete .res4A (taking 8 (resetBit .o4 (.reg .a))) s

/-- RES 5,B (R345). -/
def execRes5B (s : State) : Host.Outcome State Fault Refusal :=
  complete .res5B (taking 8 (resetBit .o5 (.reg .b))) s

/-- RES 5,C (R345). -/
def execRes5C (s : State) : Host.Outcome State Fault Refusal :=
  complete .res5C (taking 8 (resetBit .o5 (.reg .c))) s

/-- RES 5,D (R345). -/
def execRes5D (s : State) : Host.Outcome State Fault Refusal :=
  complete .res5D (taking 8 (resetBit .o5 (.reg .d))) s

/-- RES 5,E (R345). -/
def execRes5E (s : State) : Host.Outcome State Fault Refusal :=
  complete .res5E (taking 8 (resetBit .o5 (.reg .e))) s

/-- RES 5,H (R345). -/
def execRes5H (s : State) : Host.Outcome State Fault Refusal :=
  complete .res5H (taking 8 (resetBit .o5 (.reg .h))) s

/-- RES 5,L (R345). -/
def execRes5L (s : State) : Host.Outcome State Fault Refusal :=
  complete .res5L (taking 8 (resetBit .o5 (.reg .l))) s

/-- RES 5,(HL) (R345). -/
def execRes5MemHl (s : State) : Host.Outcome State Fault Refusal :=
  complete .res5MemHl (taking 16 (resetBit .o5 .memHl)) s

/-- RES 5,A (R345). -/
def execRes5A (s : State) : Host.Outcome State Fault Refusal :=
  complete .res5A (taking 8 (resetBit .o5 (.reg .a))) s

/-- RES 6,B (R345). -/
def execRes6B (s : State) : Host.Outcome State Fault Refusal :=
  complete .res6B (taking 8 (resetBit .o6 (.reg .b))) s

/-- RES 6,C (R345). -/
def execRes6C (s : State) : Host.Outcome State Fault Refusal :=
  complete .res6C (taking 8 (resetBit .o6 (.reg .c))) s

/-- RES 6,D (R345). -/
def execRes6D (s : State) : Host.Outcome State Fault Refusal :=
  complete .res6D (taking 8 (resetBit .o6 (.reg .d))) s

/-- RES 6,E (R345). -/
def execRes6E (s : State) : Host.Outcome State Fault Refusal :=
  complete .res6E (taking 8 (resetBit .o6 (.reg .e))) s

/-- RES 6,H (R345). -/
def execRes6H (s : State) : Host.Outcome State Fault Refusal :=
  complete .res6H (taking 8 (resetBit .o6 (.reg .h))) s

/-- RES 6,L (R345). -/
def execRes6L (s : State) : Host.Outcome State Fault Refusal :=
  complete .res6L (taking 8 (resetBit .o6 (.reg .l))) s

/-- RES 6,(HL) (R345). -/
def execRes6MemHl (s : State) : Host.Outcome State Fault Refusal :=
  complete .res6MemHl (taking 16 (resetBit .o6 .memHl)) s

/-- RES 6,A (R345). -/
def execRes6A (s : State) : Host.Outcome State Fault Refusal :=
  complete .res6A (taking 8 (resetBit .o6 (.reg .a))) s

/-- RES 7,B (R345). -/
def execRes7B (s : State) : Host.Outcome State Fault Refusal :=
  complete .res7B (taking 8 (resetBit .o7 (.reg .b))) s

/-- RES 7,C (R345). -/
def execRes7C (s : State) : Host.Outcome State Fault Refusal :=
  complete .res7C (taking 8 (resetBit .o7 (.reg .c))) s

/-- RES 7,D (R345). -/
def execRes7D (s : State) : Host.Outcome State Fault Refusal :=
  complete .res7D (taking 8 (resetBit .o7 (.reg .d))) s

/-- RES 7,E (R345). -/
def execRes7E (s : State) : Host.Outcome State Fault Refusal :=
  complete .res7E (taking 8 (resetBit .o7 (.reg .e))) s

/-- RES 7,H (R345). -/
def execRes7H (s : State) : Host.Outcome State Fault Refusal :=
  complete .res7H (taking 8 (resetBit .o7 (.reg .h))) s

/-- RES 7,L (R345). -/
def execRes7L (s : State) : Host.Outcome State Fault Refusal :=
  complete .res7L (taking 8 (resetBit .o7 (.reg .l))) s

/-- RES 7,(HL) (R345). -/
def execRes7MemHl (s : State) : Host.Outcome State Fault Refusal :=
  complete .res7MemHl (taking 16 (resetBit .o7 .memHl)) s

/-- RES 7,A (R345). -/
def execRes7A (s : State) : Host.Outcome State Fault Refusal :=
  complete .res7A (taking 8 (resetBit .o7 (.reg .a))) s

/-- SET 0,B (R346). -/
def execSet0B (s : State) : Host.Outcome State Fault Refusal :=
  complete .set0B (taking 8 (setBit .o0 (.reg .b))) s

/-- SET 0,C (R346). -/
def execSet0C (s : State) : Host.Outcome State Fault Refusal :=
  complete .set0C (taking 8 (setBit .o0 (.reg .c))) s

/-- SET 0,D (R346). -/
def execSet0D (s : State) : Host.Outcome State Fault Refusal :=
  complete .set0D (taking 8 (setBit .o0 (.reg .d))) s

/-- SET 0,E (R346). -/
def execSet0E (s : State) : Host.Outcome State Fault Refusal :=
  complete .set0E (taking 8 (setBit .o0 (.reg .e))) s

/-- SET 0,H (R346). -/
def execSet0H (s : State) : Host.Outcome State Fault Refusal :=
  complete .set0H (taking 8 (setBit .o0 (.reg .h))) s

/-- SET 0,L (R346). -/
def execSet0L (s : State) : Host.Outcome State Fault Refusal :=
  complete .set0L (taking 8 (setBit .o0 (.reg .l))) s

/-- SET 0,(HL) (R346). -/
def execSet0MemHl (s : State) : Host.Outcome State Fault Refusal :=
  complete .set0MemHl (taking 16 (setBit .o0 .memHl)) s

/-- SET 0,A (R346). -/
def execSet0A (s : State) : Host.Outcome State Fault Refusal :=
  complete .set0A (taking 8 (setBit .o0 (.reg .a))) s

/-- SET 1,B (R346). -/
def execSet1B (s : State) : Host.Outcome State Fault Refusal :=
  complete .set1B (taking 8 (setBit .o1 (.reg .b))) s

/-- SET 1,C (R346). -/
def execSet1C (s : State) : Host.Outcome State Fault Refusal :=
  complete .set1C (taking 8 (setBit .o1 (.reg .c))) s

/-- SET 1,D (R346). -/
def execSet1D (s : State) : Host.Outcome State Fault Refusal :=
  complete .set1D (taking 8 (setBit .o1 (.reg .d))) s

/-- SET 1,E (R346). -/
def execSet1E (s : State) : Host.Outcome State Fault Refusal :=
  complete .set1E (taking 8 (setBit .o1 (.reg .e))) s

/-- SET 1,H (R346). -/
def execSet1H (s : State) : Host.Outcome State Fault Refusal :=
  complete .set1H (taking 8 (setBit .o1 (.reg .h))) s

/-- SET 1,L (R346). -/
def execSet1L (s : State) : Host.Outcome State Fault Refusal :=
  complete .set1L (taking 8 (setBit .o1 (.reg .l))) s

/-- SET 1,(HL) (R346). -/
def execSet1MemHl (s : State) : Host.Outcome State Fault Refusal :=
  complete .set1MemHl (taking 16 (setBit .o1 .memHl)) s

/-- SET 1,A (R346). -/
def execSet1A (s : State) : Host.Outcome State Fault Refusal :=
  complete .set1A (taking 8 (setBit .o1 (.reg .a))) s

/-- SET 2,B (R346). -/
def execSet2B (s : State) : Host.Outcome State Fault Refusal :=
  complete .set2B (taking 8 (setBit .o2 (.reg .b))) s

/-- SET 2,C (R346). -/
def execSet2C (s : State) : Host.Outcome State Fault Refusal :=
  complete .set2C (taking 8 (setBit .o2 (.reg .c))) s

/-- SET 2,D (R346). -/
def execSet2D (s : State) : Host.Outcome State Fault Refusal :=
  complete .set2D (taking 8 (setBit .o2 (.reg .d))) s

/-- SET 2,E (R346). -/
def execSet2E (s : State) : Host.Outcome State Fault Refusal :=
  complete .set2E (taking 8 (setBit .o2 (.reg .e))) s

/-- SET 2,H (R346). -/
def execSet2H (s : State) : Host.Outcome State Fault Refusal :=
  complete .set2H (taking 8 (setBit .o2 (.reg .h))) s

/-- SET 2,L (R346). -/
def execSet2L (s : State) : Host.Outcome State Fault Refusal :=
  complete .set2L (taking 8 (setBit .o2 (.reg .l))) s

/-- SET 2,(HL) (R346). -/
def execSet2MemHl (s : State) : Host.Outcome State Fault Refusal :=
  complete .set2MemHl (taking 16 (setBit .o2 .memHl)) s

/-- SET 2,A (R346). -/
def execSet2A (s : State) : Host.Outcome State Fault Refusal :=
  complete .set2A (taking 8 (setBit .o2 (.reg .a))) s

/-- SET 3,B (R346). -/
def execSet3B (s : State) : Host.Outcome State Fault Refusal :=
  complete .set3B (taking 8 (setBit .o3 (.reg .b))) s

/-- SET 3,C (R346). -/
def execSet3C (s : State) : Host.Outcome State Fault Refusal :=
  complete .set3C (taking 8 (setBit .o3 (.reg .c))) s

/-- SET 3,D (R346). -/
def execSet3D (s : State) : Host.Outcome State Fault Refusal :=
  complete .set3D (taking 8 (setBit .o3 (.reg .d))) s

/-- SET 3,E (R346). -/
def execSet3E (s : State) : Host.Outcome State Fault Refusal :=
  complete .set3E (taking 8 (setBit .o3 (.reg .e))) s

/-- SET 3,H (R346). -/
def execSet3H (s : State) : Host.Outcome State Fault Refusal :=
  complete .set3H (taking 8 (setBit .o3 (.reg .h))) s

/-- SET 3,L (R346). -/
def execSet3L (s : State) : Host.Outcome State Fault Refusal :=
  complete .set3L (taking 8 (setBit .o3 (.reg .l))) s

/-- SET 3,(HL) (R346). -/
def execSet3MemHl (s : State) : Host.Outcome State Fault Refusal :=
  complete .set3MemHl (taking 16 (setBit .o3 .memHl)) s

/-- SET 3,A (R346). -/
def execSet3A (s : State) : Host.Outcome State Fault Refusal :=
  complete .set3A (taking 8 (setBit .o3 (.reg .a))) s

/-- SET 4,B (R346). -/
def execSet4B (s : State) : Host.Outcome State Fault Refusal :=
  complete .set4B (taking 8 (setBit .o4 (.reg .b))) s

/-- SET 4,C (R346). -/
def execSet4C (s : State) : Host.Outcome State Fault Refusal :=
  complete .set4C (taking 8 (setBit .o4 (.reg .c))) s

/-- SET 4,D (R346). -/
def execSet4D (s : State) : Host.Outcome State Fault Refusal :=
  complete .set4D (taking 8 (setBit .o4 (.reg .d))) s

/-- SET 4,E (R346). -/
def execSet4E (s : State) : Host.Outcome State Fault Refusal :=
  complete .set4E (taking 8 (setBit .o4 (.reg .e))) s

/-- SET 4,H (R346). -/
def execSet4H (s : State) : Host.Outcome State Fault Refusal :=
  complete .set4H (taking 8 (setBit .o4 (.reg .h))) s

/-- SET 4,L (R346). -/
def execSet4L (s : State) : Host.Outcome State Fault Refusal :=
  complete .set4L (taking 8 (setBit .o4 (.reg .l))) s

/-- SET 4,(HL) (R346). -/
def execSet4MemHl (s : State) : Host.Outcome State Fault Refusal :=
  complete .set4MemHl (taking 16 (setBit .o4 .memHl)) s

/-- SET 4,A (R346). -/
def execSet4A (s : State) : Host.Outcome State Fault Refusal :=
  complete .set4A (taking 8 (setBit .o4 (.reg .a))) s

/-- SET 5,B (R346). -/
def execSet5B (s : State) : Host.Outcome State Fault Refusal :=
  complete .set5B (taking 8 (setBit .o5 (.reg .b))) s

/-- SET 5,C (R346). -/
def execSet5C (s : State) : Host.Outcome State Fault Refusal :=
  complete .set5C (taking 8 (setBit .o5 (.reg .c))) s

/-- SET 5,D (R346). -/
def execSet5D (s : State) : Host.Outcome State Fault Refusal :=
  complete .set5D (taking 8 (setBit .o5 (.reg .d))) s

/-- SET 5,E (R346). -/
def execSet5E (s : State) : Host.Outcome State Fault Refusal :=
  complete .set5E (taking 8 (setBit .o5 (.reg .e))) s

/-- SET 5,H (R346). -/
def execSet5H (s : State) : Host.Outcome State Fault Refusal :=
  complete .set5H (taking 8 (setBit .o5 (.reg .h))) s

/-- SET 5,L (R346). -/
def execSet5L (s : State) : Host.Outcome State Fault Refusal :=
  complete .set5L (taking 8 (setBit .o5 (.reg .l))) s

/-- SET 5,(HL) (R346). -/
def execSet5MemHl (s : State) : Host.Outcome State Fault Refusal :=
  complete .set5MemHl (taking 16 (setBit .o5 .memHl)) s

/-- SET 5,A (R346). -/
def execSet5A (s : State) : Host.Outcome State Fault Refusal :=
  complete .set5A (taking 8 (setBit .o5 (.reg .a))) s

/-- SET 6,B (R346). -/
def execSet6B (s : State) : Host.Outcome State Fault Refusal :=
  complete .set6B (taking 8 (setBit .o6 (.reg .b))) s

/-- SET 6,C (R346). -/
def execSet6C (s : State) : Host.Outcome State Fault Refusal :=
  complete .set6C (taking 8 (setBit .o6 (.reg .c))) s

/-- SET 6,D (R346). -/
def execSet6D (s : State) : Host.Outcome State Fault Refusal :=
  complete .set6D (taking 8 (setBit .o6 (.reg .d))) s

/-- SET 6,E (R346). -/
def execSet6E (s : State) : Host.Outcome State Fault Refusal :=
  complete .set6E (taking 8 (setBit .o6 (.reg .e))) s

/-- SET 6,H (R346). -/
def execSet6H (s : State) : Host.Outcome State Fault Refusal :=
  complete .set6H (taking 8 (setBit .o6 (.reg .h))) s

/-- SET 6,L (R346). -/
def execSet6L (s : State) : Host.Outcome State Fault Refusal :=
  complete .set6L (taking 8 (setBit .o6 (.reg .l))) s

/-- SET 6,(HL) (R346). -/
def execSet6MemHl (s : State) : Host.Outcome State Fault Refusal :=
  complete .set6MemHl (taking 16 (setBit .o6 .memHl)) s

/-- SET 6,A (R346). -/
def execSet6A (s : State) : Host.Outcome State Fault Refusal :=
  complete .set6A (taking 8 (setBit .o6 (.reg .a))) s

/-- SET 7,B (R346). -/
def execSet7B (s : State) : Host.Outcome State Fault Refusal :=
  complete .set7B (taking 8 (setBit .o7 (.reg .b))) s

/-- SET 7,C (R346). -/
def execSet7C (s : State) : Host.Outcome State Fault Refusal :=
  complete .set7C (taking 8 (setBit .o7 (.reg .c))) s

/-- SET 7,D (R346). -/
def execSet7D (s : State) : Host.Outcome State Fault Refusal :=
  complete .set7D (taking 8 (setBit .o7 (.reg .d))) s

/-- SET 7,E (R346). -/
def execSet7E (s : State) : Host.Outcome State Fault Refusal :=
  complete .set7E (taking 8 (setBit .o7 (.reg .e))) s

/-- SET 7,H (R346). -/
def execSet7H (s : State) : Host.Outcome State Fault Refusal :=
  complete .set7H (taking 8 (setBit .o7 (.reg .h))) s

/-- SET 7,L (R346). -/
def execSet7L (s : State) : Host.Outcome State Fault Refusal :=
  complete .set7L (taking 8 (setBit .o7 (.reg .l))) s

/-- SET 7,(HL) (R346). -/
def execSet7MemHl (s : State) : Host.Outcome State Fault Refusal :=
  complete .set7MemHl (taking 16 (setBit .o7 .memHl)) s

/-- SET 7,A (R346). -/
def execSet7A (s : State) : Host.Outcome State Fault Refusal :=
  complete .set7A (taking 8 (setBit .o7 (.reg .a))) s

end Sys2Proof.Machine
end

