-- ==== Sys2Proof/Machine/Rotate.lean ====
section
/-! DEFINITION. The accumulator rotates and the CB rotates and shifts (43_rotate_shift_bit.md R330-R343,
R347). -/

namespace Sys2Proof.Machine

/-- RLCA, RRCA, RLA, RRA: the rotate of A, with Z from the result or cleared by ACC_ROT_Z_MODE (R332). -/
def accRotate (op : RotOp) : Exec Unit := update fun s =>
  let r := rotCompute op s.a (s.flag .carry)
  let z := match s.cfg.accRotZ with
    | .result => decide (r.1 = 0x00#8)
    | .clear => false
  State.setFlags { s with a := r.1 } z false false r.2

/-- `v <- ReadR(z); (r, c) <- OP(v); WriteR(z, r)`, then the flags of R331: not written if the write raises
(R330). -/
def rotateOperand (op : RotOp) (o : Operand) : Exec Unit := do
  let v ← readOperand o
  let cy ← look (State.flag · .carry)
  writeOperand o (rotCompute op v cy).1
  update (State.setFlags · (decide ((rotCompute op v cy).1 = 0x00#8)) false false (rotCompute op v cy).2)

/-! One meaning per row of opcode_table.json, in the table's order. -/

/-- RLCA (R332). -/
def execRlca (s : State) : Host.Outcome State Fault Refusal :=
  complete .rlca (taking 4 (accRotate .rlc)) s

/-- RRCA (R333). -/
def execRrca (s : State) : Host.Outcome State Fault Refusal :=
  complete .rrca (taking 4 (accRotate .rrc)) s

/-- RLA (R334). -/
def execRla (s : State) : Host.Outcome State Fault Refusal :=
  complete .rla (taking 4 (accRotate .rl)) s

/-- RRA (R335). -/
def execRra (s : State) : Host.Outcome State Fault Refusal :=
  complete .rra (taking 4 (accRotate .rr)) s

/-- RLC B (R336). -/
def execRlcB (s : State) : Host.Outcome State Fault Refusal :=
  complete .rlcB (taking 8 (rotateOperand .rlc (.reg .b))) s

/-- RLC C (R336). -/
def execRlcC (s : State) : Host.Outcome State Fault Refusal :=
  complete .rlcC (taking 8 (rotateOperand .rlc (.reg .c))) s

/-- RLC D (R336). -/
def execRlcD (s : State) : Host.Outcome State Fault Refusal :=
  complete .rlcD (taking 8 (rotateOperand .rlc (.reg .d))) s

/-- RLC E (R336). -/
def execRlcE (s : State) : Host.Outcome State Fault Refusal :=
  complete .rlcE (taking 8 (rotateOperand .rlc (.reg .e))) s

/-- RLC H (R336). -/
def execRlcH (s : State) : Host.Outcome State Fault Refusal :=
  complete .rlcH (taking 8 (rotateOperand .rlc (.reg .h))) s

/-- RLC L (R336). -/
def execRlcL (s : State) : Host.Outcome State Fault Refusal :=
  complete .rlcL (taking 8 (rotateOperand .rlc (.reg .l))) s

/-- RLC (HL) (R336). -/
def execRlcMemHl (s : State) : Host.Outcome State Fault Refusal :=
  complete .rlcMemHl (taking 16 (rotateOperand .rlc .memHl)) s

/-- RLC A (R336). -/
def execRlcA (s : State) : Host.Outcome State Fault Refusal :=
  complete .rlcA (taking 8 (rotateOperand .rlc (.reg .a))) s

/-- RRC B (R337). -/
def execRrcB (s : State) : Host.Outcome State Fault Refusal :=
  complete .rrcB (taking 8 (rotateOperand .rrc (.reg .b))) s

/-- RRC C (R337). -/
def execRrcC (s : State) : Host.Outcome State Fault Refusal :=
  complete .rrcC (taking 8 (rotateOperand .rrc (.reg .c))) s

/-- RRC D (R337). -/
def execRrcD (s : State) : Host.Outcome State Fault Refusal :=
  complete .rrcD (taking 8 (rotateOperand .rrc (.reg .d))) s

/-- RRC E (R337). -/
def execRrcE (s : State) : Host.Outcome State Fault Refusal :=
  complete .rrcE (taking 8 (rotateOperand .rrc (.reg .e))) s

/-- RRC H (R337). -/
def execRrcH (s : State) : Host.Outcome State Fault Refusal :=
  complete .rrcH (taking 8 (rotateOperand .rrc (.reg .h))) s

/-- RRC L (R337). -/
def execRrcL (s : State) : Host.Outcome State Fault Refusal :=
  complete .rrcL (taking 8 (rotateOperand .rrc (.reg .l))) s

/-- RRC (HL) (R337). -/
def execRrcMemHl (s : State) : Host.Outcome State Fault Refusal :=
  complete .rrcMemHl (taking 16 (rotateOperand .rrc .memHl)) s

/-- RRC A (R337). -/
def execRrcA (s : State) : Host.Outcome State Fault Refusal :=
  complete .rrcA (taking 8 (rotateOperand .rrc (.reg .a))) s

/-- RL B (R338). -/
def execRlB (s : State) : Host.Outcome State Fault Refusal :=
  complete .rlB (taking 8 (rotateOperand .rl (.reg .b))) s

/-- RL C (R338). -/
def execRlC (s : State) : Host.Outcome State Fault Refusal :=
  complete .rlC (taking 8 (rotateOperand .rl (.reg .c))) s

/-- RL D (R338). -/
def execRlD (s : State) : Host.Outcome State Fault Refusal :=
  complete .rlD (taking 8 (rotateOperand .rl (.reg .d))) s

/-- RL E (R338). -/
def execRlE (s : State) : Host.Outcome State Fault Refusal :=
  complete .rlE (taking 8 (rotateOperand .rl (.reg .e))) s

/-- RL H (R338). -/
def execRlH (s : State) : Host.Outcome State Fault Refusal :=
  complete .rlH (taking 8 (rotateOperand .rl (.reg .h))) s

/-- RL L (R338). -/
def execRlL (s : State) : Host.Outcome State Fault Refusal :=
  complete .rlL (taking 8 (rotateOperand .rl (.reg .l))) s

/-- RL (HL) (R338). -/
def execRlMemHl (s : State) : Host.Outcome State Fault Refusal :=
  complete .rlMemHl (taking 16 (rotateOperand .rl .memHl)) s

/-- RL A (R338). -/
def execRlA (s : State) : Host.Outcome State Fault Refusal :=
  complete .rlA (taking 8 (rotateOperand .rl (.reg .a))) s

/-- RR B (R339). -/
def execRrB (s : State) : Host.Outcome State Fault Refusal :=
  complete .rrB (taking 8 (rotateOperand .rr (.reg .b))) s

/-- RR C (R339). -/
def execRrC (s : State) : Host.Outcome State Fault Refusal :=
  complete .rrC (taking 8 (rotateOperand .rr (.reg .c))) s

/-- RR D (R339). -/
def execRrD (s : State) : Host.Outcome State Fault Refusal :=
  complete .rrD (taking 8 (rotateOperand .rr (.reg .d))) s

/-- RR E (R339). -/
def execRrE (s : State) : Host.Outcome State Fault Refusal :=
  complete .rrE (taking 8 (rotateOperand .rr (.reg .e))) s

/-- RR H (R339). -/
def execRrH (s : State) : Host.Outcome State Fault Refusal :=
  complete .rrH (taking 8 (rotateOperand .rr (.reg .h))) s

/-- RR L (R339). -/
def execRrL (s : State) : Host.Outcome State Fault Refusal :=
  complete .rrL (taking 8 (rotateOperand .rr (.reg .l))) s

/-- RR (HL) (R339). -/
def execRrMemHl (s : State) : Host.Outcome State Fault Refusal :=
  complete .rrMemHl (taking 16 (rotateOperand .rr .memHl)) s

/-- RR A (R339). -/
def execRrA (s : State) : Host.Outcome State Fault Refusal :=
  complete .rrA (taking 8 (rotateOperand .rr (.reg .a))) s

/-- SLA B (R340). -/
def execSlaB (s : State) : Host.Outcome State Fault Refusal :=
  complete .slaB (taking 8 (rotateOperand .sla (.reg .b))) s

/-- SLA C (R340). -/
def execSlaC (s : State) : Host.Outcome State Fault Refusal :=
  complete .slaC (taking 8 (rotateOperand .sla (.reg .c))) s

/-- SLA D (R340). -/
def execSlaD (s : State) : Host.Outcome State Fault Refusal :=
  complete .slaD (taking 8 (rotateOperand .sla (.reg .d))) s

/-- SLA E (R340). -/
def execSlaE (s : State) : Host.Outcome State Fault Refusal :=
  complete .slaE (taking 8 (rotateOperand .sla (.reg .e))) s

/-- SLA H (R340). -/
def execSlaH (s : State) : Host.Outcome State Fault Refusal :=
  complete .slaH (taking 8 (rotateOperand .sla (.reg .h))) s

/-- SLA L (R340). -/
def execSlaL (s : State) : Host.Outcome State Fault Refusal :=
  complete .slaL (taking 8 (rotateOperand .sla (.reg .l))) s

/-- SLA (HL) (R340). -/
def execSlaMemHl (s : State) : Host.Outcome State Fault Refusal :=
  complete .slaMemHl (taking 16 (rotateOperand .sla .memHl)) s

/-- SLA A (R340). -/
def execSlaA (s : State) : Host.Outcome State Fault Refusal :=
  complete .slaA (taking 8 (rotateOperand .sla (.reg .a))) s

/-- SRA B (R341). -/
def execSraB (s : State) : Host.Outcome State Fault Refusal :=
  complete .sraB (taking 8 (rotateOperand .sra (.reg .b))) s

/-- SRA C (R341). -/
def execSraC (s : State) : Host.Outcome State Fault Refusal :=
  complete .sraC (taking 8 (rotateOperand .sra (.reg .c))) s

/-- SRA D (R341). -/
def execSraD (s : State) : Host.Outcome State Fault Refusal :=
  complete .sraD (taking 8 (rotateOperand .sra (.reg .d))) s

/-- SRA E (R341). -/
def execSraE (s : State) : Host.Outcome State Fault Refusal :=
  complete .sraE (taking 8 (rotateOperand .sra (.reg .e))) s

/-- SRA H (R341). -/
def execSraH (s : State) : Host.Outcome State Fault Refusal :=
  complete .sraH (taking 8 (rotateOperand .sra (.reg .h))) s

/-- SRA L (R341). -/
def execSraL (s : State) : Host.Outcome State Fault Refusal :=
  complete .sraL (taking 8 (rotateOperand .sra (.reg .l))) s

/-- SRA (HL) (R341). -/
def execSraMemHl (s : State) : Host.Outcome State Fault Refusal :=
  complete .sraMemHl (taking 16 (rotateOperand .sra .memHl)) s

/-- SRA A (R341). -/
def execSraA (s : State) : Host.Outcome State Fault Refusal :=
  complete .sraA (taking 8 (rotateOperand .sra (.reg .a))) s

/-- SWAP B (R342). -/
def execSwapB (s : State) : Host.Outcome State Fault Refusal :=
  complete .swapB (taking 8 (rotateOperand .swap (.reg .b))) s

/-- SWAP C (R342). -/
def execSwapC (s : State) : Host.Outcome State Fault Refusal :=
  complete .swapC (taking 8 (rotateOperand .swap (.reg .c))) s

/-- SWAP D (R342). -/
def execSwapD (s : State) : Host.Outcome State Fault Refusal :=
  complete .swapD (taking 8 (rotateOperand .swap (.reg .d))) s

/-- SWAP E (R342). -/
def execSwapE (s : State) : Host.Outcome State Fault Refusal :=
  complete .swapE (taking 8 (rotateOperand .swap (.reg .e))) s

/-- SWAP H (R342). -/
def execSwapH (s : State) : Host.Outcome State Fault Refusal :=
  complete .swapH (taking 8 (rotateOperand .swap (.reg .h))) s

/-- SWAP L (R342). -/
def execSwapL (s : State) : Host.Outcome State Fault Refusal :=
  complete .swapL (taking 8 (rotateOperand .swap (.reg .l))) s

/-- SWAP (HL) (R342). -/
def execSwapMemHl (s : State) : Host.Outcome State Fault Refusal :=
  complete .swapMemHl (taking 16 (rotateOperand .swap .memHl)) s

/-- SWAP A (R342). -/
def execSwapA (s : State) : Host.Outcome State Fault Refusal :=
  complete .swapA (taking 8 (rotateOperand .swap (.reg .a))) s

/-- SRL B (R343). -/
def execSrlB (s : State) : Host.Outcome State Fault Refusal :=
  complete .srlB (taking 8 (rotateOperand .srl (.reg .b))) s

/-- SRL C (R343). -/
def execSrlC (s : State) : Host.Outcome State Fault Refusal :=
  complete .srlC (taking 8 (rotateOperand .srl (.reg .c))) s

/-- SRL D (R343). -/
def execSrlD (s : State) : Host.Outcome State Fault Refusal :=
  complete .srlD (taking 8 (rotateOperand .srl (.reg .d))) s

/-- SRL E (R343). -/
def execSrlE (s : State) : Host.Outcome State Fault Refusal :=
  complete .srlE (taking 8 (rotateOperand .srl (.reg .e))) s

/-- SRL H (R343). -/
def execSrlH (s : State) : Host.Outcome State Fault Refusal :=
  complete .srlH (taking 8 (rotateOperand .srl (.reg .h))) s

/-- SRL L (R343). -/
def execSrlL (s : State) : Host.Outcome State Fault Refusal :=
  complete .srlL (taking 8 (rotateOperand .srl (.reg .l))) s

/-- SRL (HL) (R343). -/
def execSrlMemHl (s : State) : Host.Outcome State Fault Refusal :=
  complete .srlMemHl (taking 16 (rotateOperand .srl .memHl)) s

/-- SRL A (R343). -/
def execSrlA (s : State) : Host.Outcome State Fault Refusal :=
  complete .srlA (taking 8 (rotateOperand .srl (.reg .a))) s

end Sys2Proof.Machine
end

