-- ==== Sys2Proof/Machine/System.lean ====
section
/-! DEFINITION. Control and system instructions (45_system.md), with the CB prefix and the unassigned
bytes. No instruction here writes a flag, except what the prefix runs. -/

namespace Sys2Proof.Machine

/-- `RUN <- Halted` (R401). -/
def haltCore : Exec Unit := update fun s => { s with run := .halted }

/-- `RUN <- Stopped` (R402); the second byte has been fetched and is ignored. -/
def stopCore : Exec Unit := update fun s => { s with run := .stopped }

/-- DI and EI write IME at once (R403, R404). -/
def writeIme (v : Bool) : Exec Unit := update fun s => { s with ime := v }

/-- An unassigned byte: nothing, or MARK <- locked (R406, 60_exceptions.md R437). -/
def illegalOpcode : Exec Unit := update fun s =>
  match s.cfg.illegalOpcode with
  | .nop => s
  | .lock => { s with mark := .locked }

/-- The cycles of an extended instruction on an operand (70_reset_and_hazards.md R487). -/
def extendedCycles (x : BitVec 2) : Operand → Nat
  | .reg _ => 8
  | .memHl => if x = 1#2 then 12 else 16

/-- `execute(decode_extended(0xCB00 | cb))` (R405) by the fields of cb (30_encoding.md R182): what the
prefix does with the byte after it. -/
def extendedBody (cb : Byte) : Exec Nat :=
  let o := Operand.ofCode (fieldZ cb)
  taking (extendedCycles (fieldX cb) o)
    (match (fieldX cb).toNat with
    | 0 => rotateOperand (RotOp.ofCode (fieldY cb)) o
    | 1 => testBit (fieldY cb) o
    | 2 => resetBit (fieldY cb) o
    | _ => setBit (fieldY cb) o)

/-! One meaning per row of opcode_table.json, in the table's order. -/

/-- NOP (R400). -/
def execNop (s : State) : Host.Outcome State Fault Refusal :=
  complete .nop (taking 4 (pure ())) s

/-- STOP (R402). -/
def execStop (ignored : Byte) (s : State) : Host.Outcome State Fault Refusal :=
  complete (.stop ignored) (taking 4 stopCore) s

/-- HALT (R401). -/
def execHalt (s : State) : Host.Outcome State Fault Refusal :=
  complete .halt (taking 4 haltCore) s

/-- PREFIX CB (R405). -/
def execPrefixCb (cb : Byte) (s : State) : Host.Outcome State Fault Refusal :=
  complete (.prefixCb cb) (extendedBody cb) s

/-- ILLEGAL_D3 (R406). -/
def execIllegalD3 (s : State) : Host.Outcome State Fault Refusal :=
  complete .illegalD3 (taking 4 illegalOpcode) s

/-- ILLEGAL_DB (R406). -/
def execIllegalDB (s : State) : Host.Outcome State Fault Refusal :=
  complete .illegalDB (taking 4 illegalOpcode) s

/-- ILLEGAL_DD (R406). -/
def execIllegalDD (s : State) : Host.Outcome State Fault Refusal :=
  complete .illegalDD (taking 4 illegalOpcode) s

/-- ILLEGAL_E3 (R406). -/
def execIllegalE3 (s : State) : Host.Outcome State Fault Refusal :=
  complete .illegalE3 (taking 4 illegalOpcode) s

/-- ILLEGAL_E4 (R406). -/
def execIllegalE4 (s : State) : Host.Outcome State Fault Refusal :=
  complete .illegalE4 (taking 4 illegalOpcode) s

/-- ILLEGAL_EB (R406). -/
def execIllegalEB (s : State) : Host.Outcome State Fault Refusal :=
  complete .illegalEB (taking 4 illegalOpcode) s

/-- ILLEGAL_EC (R406). -/
def execIllegalEC (s : State) : Host.Outcome State Fault Refusal :=
  complete .illegalEC (taking 4 illegalOpcode) s

/-- ILLEGAL_ED (R406). -/
def execIllegalED (s : State) : Host.Outcome State Fault Refusal :=
  complete .illegalED (taking 4 illegalOpcode) s

/-- DI (R403). -/
def execDi (s : State) : Host.Outcome State Fault Refusal :=
  complete .di (taking 4 (writeIme false)) s

/-- ILLEGAL_F4 (R406). -/
def execIllegalF4 (s : State) : Host.Outcome State Fault Refusal :=
  complete .illegalF4 (taking 4 illegalOpcode) s

/-- EI (R404). -/
def execEi (s : State) : Host.Outcome State Fault Refusal :=
  complete .ei (taking 4 (writeIme true)) s

/-- ILLEGAL_FC (R406). -/
def execIllegalFC (s : State) : Host.Outcome State Fault Refusal :=
  complete .illegalFC (taking 4 illegalOpcode) s

/-- ILLEGAL_FD (R406). -/
def execIllegalFD (s : State) : Host.Outcome State Fault Refusal :=
  complete .illegalFD (taking 4 illegalOpcode) s

end Sys2Proof.Machine
end

