-- ==== Sys2Proof/Machine/Place.lean ====
section
/-! DEFINITION. Placing bytes in the store an address reads from. It stands for the load of a program from
outside the machine (a boot image or a cartridge image is an input of the construction, 00_scope.md R8); no
step uses it (log entry 13). -/

namespace Sys2Proof.Machine

/-- The state whose read of ROM offset `offset` gives `v`, if the image has that byte. -/
def State.placeRom (s : State) (offset : Nat) (v : Byte) : Option State :=
  if offset < s.romSize then some { s with rom := s.rom.write offset v } else none

/-- The state whose read of CRAM offset `offset` gives `v`, if the RAM is enabled and has that byte. -/
def State.placeCram (s : State) (ramEn : Bool) (offset : Nat) (v : Byte) : Option State :=
  if ramEn ∧ offset < s.cramSize then some { s with cram := s.cram.write offset v } else none

/-- The ROM bank the window 0x4000-0x7FFF shows (20_memory.md R113, R130, R140-R143). -/
def State.shownRomBank (s : State) : Nat :=
  match s.mapper, s.cfg.otherMbc with
  | .romOnly, _ => 1
  | .mbc1 m, _ => m.romBank.toNat
  | .mbc2 m, .reference => m.romBank.toNat
  | .mbc3 m, .reference => m.romBank.toNat
  | .mbc5 _ m, .reference => m.romBank.toNat
  | .mbc2 _, .refuse => 1
  | .mbc3 _, .refuse => 1
  | .mbc5 _ _, .refuse => 1

/-- The state whose read of address `a` gives `v`, if `a` reads from a store that can hold every byte. -/
def State.place (s : State) (a : Word) (v : Byte) : Option State :=
  match regionOf a with
  | .cartRom =>
    if a.toNat ≤ 0x00FF ∧ s.bootOff = false then some { s with boot := s.boot.write a.toNat v }
    else s.placeRom (romOffset s.shownRomBank a) v
  | .vram => some { s with vram := s.vram.write (a.toNat - 0x8000) v }
  | .cartRam =>
    match s.mapper, s.cfg.otherMbc with
    | .mbc1 m, _ => s.placeCram m.ramEn (cramOffset m.ramBank.toNat a) v
    | .mbc3 m, .reference => s.placeCram m.ramEn (cramOffset m.sel.toNat a) v
    | .mbc5 _ m, .reference => s.placeCram m.ramEn (cramOffset m.ramBank.toNat a) v
    | _, _ => none
  | .wram => some { s with wram := s.wram.write (a.toNat - 0xC000) v }
  | .echo => some { s with wram := s.wram.write (a.toNat - 0xE000) v }
  | .oam => some { s with oam := s.oam.write (a.toNat - 0xFE00) v }
  | .unmapped => none
  | .bootStatus => none
  | .forwarded => none

/-- Place a list of bytes from `a` on. -/
def State.placeAll (s : State) (a : Word) : List Byte → Option State
  | [] => some s
  | v :: vs =>
    match s.place a v with
    | some s' => s'.placeAll (a + 1#16) vs
    | none => none

/-- Place bytes where PC points. Where PC points at addresses that hold no stored byte, PC is set to working
RAM (0xC000) and the bytes are placed there. -/
def State.placeAtPc (s : State) (bytes : List Byte) : State :=
  match s.placeAll s.pc bytes with
  | some s' => s'
  | none =>
    match (s.setPc 0xC000#16).placeAll 0xC000#16 bytes with
    | some s' => s'
    | none => s

/-- The state in which a step fetches: RUN = Running, no FAULT, no MARK (30_encoding.md R190). -/
def State.readyToFetch (s : State) : State := { s with run := .running, fault := none, mark := .none }

end Sys2Proof.Machine
end

