-- ==== Sys2Proof/Machine/Step.lean ====
section
/-! DEFINITION. One step: the fetch-decode-execute sequencer (30_encoding.md R190), and the placement of an
opcode-table word where the next step fetches. -/

namespace Sys2Proof.Machine

/-- `exec_single_instruction()` (70_reset_and_hazards.md R475): one whole instruction by the sequencer of
30_encoding.md R190 in a running state; nothing at all in a state whose run has ended. A stop of a fetch ends
the run with what has been fetched of the opcode (60_exceptions.md R432). -/
def step (s : State) : Host.Outcome State Fault Refusal :=
  if s.isRunning then
    match fetch8 s with
    | .error why s1 => .next (s1.endRun why s.pc none)
    | .ok op s1 =>
      match fetchRest op s1 with
      | .error why s2 => .next (s2.endRun why s.pc (some (.plain op)))
      | .ok i s2 => exec i s2
  else .next s

/-- The state with the instruction whose bits opcode_table.json numbers `w` where the next step fetches it:
see Place.lean and log entry 13. -/
def State.withFetchWord (s : State) (nbits w : Nat) : State :=
  (s.readyToFetch).placeAtPc (tableBytes nbits w)

end Sys2Proof.Machine
end

