-- ==== Sys2Proof/Machine/Header.lean ====
section
/-! DEFINITION. The cartridge header (20_memory.md R120-R125) and the construction of the machine from an
image (R126, 60_exceptions.md R435, R449, 70_reset_and_hazards.md R470, R471). -/

namespace Sys2Proof.Machine

/-- VARIANT as the type byte selects it (R120). -/
inductive Variant where
  | romOnly
  | mbc1
  | mbc2
  | mbc3
  | mbc5 (rumble : Bool)
deriving DecidableEq, Repr

/-- The variant of a type byte (R120, R143), or none for a byte R121 calls a fatal load error. -/
def variantOf (typeByte : Byte) : Option Variant :=
  let t := typeByte.toNat
  if t = 0x00 ∨ t = 0x08 ∨ t = 0x09 then some .romOnly
  else if 0x01 ≤ t ∧ t ≤ 0x03 then some .mbc1
  else if t = 0x05 ∨ t = 0x06 then some .mbc2
  else if 0x0F ≤ t ∧ t ≤ 0x13 then some .mbc3
  else if 0x19 ≤ t ∧ t ≤ 0x1B then some (.mbc5 false)
  else if 0x1C ≤ t ∧ t ≤ 0x1E then some (.mbc5 true)
  else none

/-- The controller of a variant with its bank registers at reset (10_state.md R55, 20_memory.md R141-R143). -/
def Variant.mapper : Variant → Mapper
  | .romOnly => .romOnly
  | .mbc1 => .mbc1 {}
  | .mbc2 => .mbc2 {}
  | .mbc3 => .mbc3 {}
  | .mbc5 rumble => .mbc5 rumble {}

/-- The variant of a machine (10_state.md R48), which no step changes. -/
def Mapper.variant : Mapper → Variant
  | .romOnly => .romOnly
  | .mbc1 _ => .mbc1
  | .mbc2 _ => .mbc2
  | .mbc3 _ => .mbc3
  | .mbc5 rumble _ => .mbc5 rumble

/-- CRAM_SIZE of a RAM-size code (R124): a code not in the table gives 0. -/
def ramSizeOf (code : Byte) : Nat :=
  match code.toNat with
  | 0x00 => 0
  | 0x01 => 2048
  | 0x02 => 8192
  | 0x03 => 32768
  | 0x04 => 131072
  | 0x05 => 65536
  | _ => 0

/-- The bank count of a ROM-size code (R123): transcribed, read by no rule; none is "unknown". -/
def romBankCountOf (code : Byte) : Option Nat :=
  match code.toNat with
  | 0x00 => some 0
  | 0x01 => some 4
  | 0x02 => some 8
  | 0x03 => some 16
  | 0x04 => some 32
  | 0x05 => some 64
  | 0x06 => some 128
  | 0x07 => some 256
  | 0x08 => some 512
  | 0x52 => some 72
  | 0x53 => some 80
  | 0x54 => some 96
  | _ => none

/-- The destination code (R125). -/
inductive Destination where
  | japanese
  | nonJapanese
  | unknown
deriving DecidableEq, Repr

/-- The header fields that are reporting only (R123, R125). No rule of the CORE reads them. -/
structure HeaderReport where
  title : List Byte
  manufacturer : List Byte
  cgbFlag : Bool
  newLicense : Byte × Byte
  sgbFlag : Bool
  romBanks : Option Nat
  destination : Destination
  oldLicense : Byte
  version : Byte
  headerChecksum : Byte
  globalChecksum : Word
deriving DecidableEq, Repr

/-- The byte of an image at an offset. -/
def imageByte (image : List Byte) (offset : Nat) : Byte := image.getD offset 0x00#8

/-- The reporting fields of an image, at the offsets R125 transcribes. -/
def headerReport (image : List Byte) : HeaderReport where
  title := (image.drop 0x134).take 15
  manufacturer := (image.drop 0x13F).take 3
  cgbFlag := decide (imageByte image 0x143 = 0xC0#8)
  newLicense := (imageByte image 0x144, imageByte image 0x145)
  sgbFlag := decide (imageByte image 0x146 = 0x03#8)
  romBanks := romBankCountOf (imageByte image 0x148)
  destination :=
    match (imageByte image 0x14A).toNat with
    | 0x00 => .japanese
    | 0x01 => .nonJapanese
    | _ => .unknown
  oldLicense := imageByte image 0x14B
  version := imageByte image 0x14C
  headerChecksum := imageByte image 0x14D
  globalChecksum := joinBytes (imageByte image 0x14E) (imageByte image 0x14F)

/-- CRAM2 of the MBC2 class: the low nibbles of INIT_CRAM (R141); no cell in another variant. -/
def initialCram2 (v : Variant) (init : List Byte) : Memory :=
  match v with
  | .mbc2 => Memory.ofBytes 0x200 (init.map (fun x => x &&& 0x0F#8))
  | _ => []

/-- The state right after construction from an accepted image (10_state.md R55). -/
def constructed (v : Variant) (image : List Byte) (p : Params) : State :=
  { State.reset with
    sp := p.resetSp
    pc := p.resetPc
    cfg := p.modes
    mapper := v.mapper
    rom := Memory.ofBytes image.length image
    romSize := image.length
    cramSize := ramSizeOf (imageByte image 0x149)
    boot := Memory.ofBytes 0x100 p.bootImage
    wram := Memory.ofBytes 0x2000 p.initWram
    vram := Memory.ofBytes 0x2000 p.initVram
    oam := Memory.ofBytes 0xA0 p.initOam
    cram := Memory.ofBytes (ramSizeOf (imageByte image 0x149)) p.initCram
    cram2 := initialCram2 v p.initCram }

/-- `construct(image, parameters)` (60_exceptions.md R449): fails with InvalidAddress for an image shorter
than 0x0150 bytes (R122) and with UnsupportedCartridgeType for an unlisted type byte (R121); no state exists
then (60_exceptions.md R435). -/
def construct (image : List Byte) (p : Params) : Except Fault State :=
  if image.length < 0x150 then .error .invalidAddress
  else
    match variantOf (imageByte image 0x147) with
    | none => .error .unsupportedCartridgeType
    | some v => .ok (constructed v image p)

end Sys2Proof.Machine
end

