-- ==== Sys2Proof/Safety.lean ====
section
/-! DEFINITION. What a safe run is and the terms statements use: how a run ends (60_exceptions.md R450),
which access stops and why (R431), the invariant of every step, and which instruction may change what (the
frames). -/

namespace Sys2Proof.Machine

/-! ## Runs and their endings -/

/-- `run()` with a bound on the steps (70_reset_and_hazards.md R474): the spec leaves the bound to the host
(60_exceptions.md R450). -/
def runFor (n : Nat) (s : State) : Host.Outcome State Fault Refusal := Sys2Proof.core.run n s

/-- The ways a run ends (60_exceptions.md R450). -/
inductive Ending where
  | halt
  | stop
  | error
  | refusal
  | lock
deriving DecidableEq, Repr

/-- How the run has ended in a state, or none while it goes on (60_exceptions.md R450). -/
def endingOf (s : State) : Option Ending :=
  if s.fault ≠ none then some .error
  else
    match s.mark, s.run with
    | .refused, _ => some .refusal
    | .locked, _ => some .lock
    | .none, .halted => some .halt
    | .none, .stopped => some .stop
    | .none, .running => none

/-- "A run ends in exactly one of these ways" (60_exceptions.md R450): at most one of RUN, FAULT and MARK
says that the run has ended. -/
abbrev State.atMostOneEnding (s : State) : Prop :=
  (s.run = .running ∨ (s.fault = none ∧ s.mark = .none)) ∧ (s.fault = none ∨ s.mark = .none)

/-! ## Which access stops -/

/-- The stop of an external-RAM access at `a` in bank `bank` (60_exceptions.md R431). -/
def State.cramStop (s : State) (ramEn : Bool) (bank : Nat) (a : Word) : Option Stop :=
  if ramEn = true ∧ s.cramSize ≤ cramOffset bank a then some (.raised .invalidAddress a none) else none

/-- The table of read errors of 60_exceptions.md R431: why a read at `a` stops, or none. -/
def State.readStop (s : State) (a : Word) : Option Stop :=
  if a.toNat ≤ 0x7FFF then
    if a.toNat ≤ 0x00FF ∧ s.bootOff = false then none
    else if s.romSize ≤ romOffset s.shownRomBank a then some (.raised .invalidAddress a none)
    else none
  else if 0xA000 ≤ a.toNat ∧ a.toNat ≤ 0xBFFF then
    match s.mapper, s.cfg.otherMbc with
    | .romOnly, _ => some (.raised .invalidAddress a none)
    | .mbc1 m, _ => s.cramStop m.ramEn m.ramBank.toNat a
    | .mbc2 _, .reference => none
    | .mbc3 m, .reference => s.cramStop m.ramEn m.sel.toNat a
    | .mbc5 _ m, .reference => s.cramStop m.ramEn m.ramBank.toNat a
    | .mbc2 _, .refuse => some .refused
    | .mbc3 _, .refuse => some .refused
    | .mbc5 _ _, .refuse => some .refused
  else if 0xFEA0 ≤ a.toNat ∧ a.toNat ≤ 0xFEFF then some (.raised .invalidAddress a none)
  else none

/-- The table of write errors of 60_exceptions.md R431 (with 20_memory.md R142's refused SEL values): why a
write of `v` at `a` stops, or none. -/
def State.writeStop (s : State) (a : Word) (v : Byte) : Option Stop :=
  if a.toNat ≤ 0x7FFF then
    match s.mapper, s.cfg.otherMbc with
    | .romOnly, _ => some (.raised .illegalWrite a none)
    | .mbc1 _, _ =>
      if 0x6000 ≤ a.toNat ∧ v ≠ 0x00#8 ∧ v ≠ 0x01#8 then some (.raised .invalidBankingMode a (some v))
      else none
    | .mbc2 _, .reference => none
    | .mbc3 _, .reference =>
      if 0x4000 ≤ a.toNat ∧ a.toNat ≤ 0x5FFF ∧ 0x03 < v.toNat then some .refused else none
    | .mbc5 _ _, .reference => none
    | .mbc2 _, .refuse => some .refused
    | .mbc3 _, .refuse => some .refused
    | .mbc5 _ _, .refuse => some .refused
  else if 0xA000 ≤ a.toNat ∧ a.toNat ≤ 0xBFFF then
    match s.mapper, s.cfg.otherMbc with
    | .romOnly, _ => some (.raised .illegalWrite a none)
    | .mbc1 m, _ => s.cramStop m.ramEn m.ramBank.toNat a
    | .mbc2 _, .reference => none
    | .mbc3 m, .reference => s.cramStop m.ramEn m.sel.toNat a
    | .mbc5 _ m, .reference => s.cramStop m.ramEn m.ramBank.toNat a
    | .mbc2 _, .refuse => some .refused
    | .mbc3 _, .refuse => some .refused
    | .mbc5 _ _, .refuse => some .refused
  else if 0xFEA0 ≤ a.toNat ∧ a.toNat ≤ 0xFEFF then some (.raised .invalidAddress a none)
  else none

/-- An address of plain storage: a byte written there is read back (40_loads.md R246: "storage (VRAM, WRAM,
echo RAM, OAM, or enabled in-range CRAM)"). -/
def State.isStorage (s : State) (a : Word) : Bool :=
  match regionOf a with
  | .vram => true
  | .wram => true
  | .echo => true
  | .oam => true
  | .cartRam =>
    match s.mapper, s.cfg.otherMbc with
    | .mbc1 m, _ => m.ramEn && decide (cramOffset m.ramBank.toNat a < s.cramSize)
    | .mbc3 m, .reference => m.ramEn && decide (cramOffset m.sel.toNat a < s.cramSize)
    | .mbc5 _ m, .reference => m.ramEn && decide (cramOffset m.ramBank.toNat a < s.cramSize)
    | _, _ => false
  | _ => false

/-! ## The invariant -/

/-- Every store is in canonical form and inside its array (10_state.md R45-R49, 20_memory.md R96, R141). -/
abbrev State.storesWf (s : State) : Prop :=
  (Memory.wf s.boot = true ∧ Memory.within 0x100 s.boot = true) ∧
  (Memory.wf s.rom = true ∧ Memory.within s.romSize s.rom = true) ∧
  (Memory.wf s.vram = true ∧ Memory.within 0x2000 s.vram = true) ∧
  (Memory.wf s.wram = true ∧ Memory.within 0x2000 s.wram = true) ∧
  (Memory.wf s.oam = true ∧ Memory.within 0xA0 s.oam = true) ∧
  (Memory.wf s.cram = true ∧ Memory.within s.cramSize s.cram = true) ∧
  (Memory.wf s.cram2 = true ∧ Memory.within 0x200 s.cram2 = true)

/-- F bits 3..0 are 0 (10_state.md R31). -/
abbrev State.flagsLegal (s : State) : Prop := s.f &&& 0x0F#8 = 0x00#8

/-- ROM_BANK of MBC1 never has bits 4..0 all 0 (10_state.md R50), and the forcing of bank 0 to 1 in the MBC2
and MBC3 profiles (20_memory.md R141, R142). -/
def Mapper.legal : Mapper → Bool
  | .romOnly => true
  | .mbc1 m => decide (m.romBank &&& 0x1F#7 ≠ 0#7)
  | .mbc2 m => decide (m.romBank ≠ 0#4)
  | .mbc3 m => decide (m.romBank ≠ 0#7)
  | .mbc5 _ _ => true

/-- Every byte is a nibble: the cells of the MBC2 class have four bits (20_memory.md R141). -/
def Memory.nibbles (m : Memory) : Bool := m.all fun cell => decide (cell.2 &&& 0xF0#8 = 0x00#8)

/-- The invariant every step keeps. -/
abbrev State.Inv (s : State) : Prop :=
  s.storesWf ∧ s.flagsLegal ∧ Mapper.legal s.mapper = true ∧ Memory.nibbles s.cram2 = true

/-- Two states of one machine: what construction fixes is the same (10_state.md R48, R51). -/
abbrev State.sameMachine (s t : State) : Prop :=
  t.rom = s.rom ∧ t.romSize = s.romSize ∧ t.cramSize = s.cramSize ∧ t.boot = s.boot ∧ t.cfg = s.cfg ∧
  Mapper.variant t.mapper = Mapper.variant s.mapper

/-! ## Which instruction may change what

The classes are read from the opcode by its fields (30_encoding.md R181, R182). -/

/-- The instructions that write a flag (10_state.md R37, the Flags entries of 40_loads.md R245, 41_alu8.md,
42_alu16.md R312, R315, R316, 43_rotate_shift_bit.md R331-R335, R344). -/
def writesFlags (i : Instr) : Bool :=
  match i.opcode with
  | .extended cb => decide ((fieldX cb).toNat ≤ 1)
  | .plain op =>
    match (fieldX op).toNat, fieldZ op, fieldY op with
    | 0, .o1, y => decide (y.value % 2 = 1)
    | 0, .o4, _ => true
    | 0, .o5, _ => true
    | 0, .o7, _ => true
    | 2, _, _ => true
    | 3, .o6, _ => true
    | _, _, _ => decide (op = 0xF1#8 ∨ op = 0xE8#8 ∨ op = 0xF8#8)

/-- The instructions that change SP (10_state.md R38): LD SP,d16, LD SP,HL, ADD SP,e8, INC SP, DEC SP and
every push and pop. -/
def changesSp (i : Instr) : Bool :=
  match i.opcode with
  | .extended _ => false
  | .plain op =>
    decide (op ∈ [0x31#8, 0x33#8, 0x3B#8, 0xE8#8, 0xF9#8]) ||
    match (fieldX op).toNat, fieldZ op, fieldY op with
    | 3, .o0, y => decide (y.value < 4)
    | 3, .o1, y => decide (y.value % 2 = 0) || decide (op = 0xC9#8 ∨ op = 0xD9#8)
    | 3, .o4, y => decide (y.value < 4)
    | 3, .o5, y => decide (y.value % 2 = 0 ∨ op = 0xCD#8)
    | 3, .o7, _ => true
    | _, _, _ => false

/-- The instructions whose pseudocode writes PC (44_control.md). -/
def transfersControl (i : Instr) : Bool :=
  match i.opcode with
  | .extended _ => false
  | .plain op =>
    match (fieldX op).toNat, fieldZ op, fieldY op with
    | 0, .o0, y => decide (3 ≤ y.value)
    | 3, .o0, y => decide (y.value < 4)
    | 3, .o1, _ => decide (op = 0xC9#8 ∨ op = 0xD9#8 ∨ op = 0xE9#8)
    | 3, .o2, y => decide (y.value < 4)
    | 3, .o3, _ => decide (op = 0xC3#8)
    | 3, .o4, y => decide (y.value < 4)
    | 3, .o5, _ => decide (op = 0xCD#8)
    | 3, .o7, _ => true
    | _, _, _ => false

/-- The instructions that write IME (10_state.md R40). -/
def writesIme (i : Instr) : Bool := decide (i.opcode ∈ [.plain 0xF3#8, .plain 0xFB#8, .plain 0xD9#8])

/-- The registers a pair is made of (10_state.md R32); F and SP are not among the register codes. -/
def pairRegs : Pair → List Reg
  | .bc => [.b, .c]
  | .de => [.d, .e]
  | .hl => [.h, .l]
  | .sp => []

/-- The pair of a y field (30_encoding.md R185: p is y without its low bit). -/
def pairOfY (y : Octal) : Pair :=
  match y.value / 2 with
  | 0 => .bc
  | 1 => .de
  | 2 => .hl
  | _ => .sp

/-- The register an operand writes. -/
def operandRegs : Operand → List Reg
  | .reg r => [r]
  | .memHl => []

/-- The registers (other than F) an instruction may write, by the rules of 40_loads.md to 45_system.md. -/
def destinationRegs (i : Instr) : List Reg :=
  match i.opcode with
  | .extended cb => if (fieldX cb).toNat = 1 then [] else operandRegs (Operand.ofCode (fieldZ cb))
  | .plain op =>
    match (fieldX op).toNat, fieldZ op, fieldY op with
    | 0, .o1, y => if y.value % 2 = 0 then pairRegs (pairOfY y) else [.h, .l]
    | 0, .o2, y =>
      (if y.value % 2 = 1 then [.a] else []) ++ (if 4 ≤ y.value then [.h, .l] else [])
    | 0, .o3, y => pairRegs (pairOfY y)
    | 0, .o4, y => operandRegs (Operand.ofCode y)
    | 0, .o5, y => operandRegs (Operand.ofCode y)
    | 0, .o6, y => operandRegs (Operand.ofCode y)
    | 0, .o7, y => if y.value ≤ 5 then [.a] else []
    | 1, _, y => operandRegs (Operand.ofCode y)
    | 2, _, y => if y = .o7 then [] else [.a]
    | 3, .o0, y => if y = .o6 then [.a] else if y = .o7 then [.h, .l] else []
    | 3, .o1, y =>
      if y = .o6 then [.a] else if y.value % 2 = 0 then pairRegs (pairOfY y) else []
    | 3, .o2, y => if y = .o6 ∨ y = .o7 then [.a] else []
    | 3, .o6, y => if y = .o7 then [] else [.a]
    | _, _, _ => []

/-- The two bytes a push stores, when SP is `sp` before it (40_loads.md R242). -/
def pushAddresses (sp : Word) : List Word := [sp - 1#16, sp - 1#16 - 1#16]

/-- The addresses an instruction stores to, in order, computed as its pseudocode computes them from the state
it starts on (40_loads.md, 41_alu8.md R282, R284, 43_rotate_shift_bit.md R330, 44_control.md R376-R381). -/
def storeAddresses (i : Instr) (s : State) : List Word :=
  match i with
  | .ldMemA16Sp addr => [addr, addr + 1#16]
  | .ldMemA16A addr => [addr]
  | .ldhMemA8A n => [highPage n]
  | .callNzA16 _ => if s.holds .nz then pushAddresses s.sp else []
  | .callZA16 _ => if s.holds .z then pushAddresses s.sp else []
  | .callNcA16 _ => if s.holds .nc then pushAddresses s.sp else []
  | .callCA16 _ => if s.holds .c then pushAddresses s.sp else []
  | _ =>
    match i.opcode with
    | .extended cb => if fieldZ cb = .o6 ∧ (fieldX cb).toNat ≠ 1 then [s.hl] else []
    | .plain op =>
      match (fieldX op).toNat, fieldZ op, fieldY op with
      | 0, .o2, .o0 => [s.bc]
      | 0, .o2, .o2 => [s.de]
      | 0, .o2, .o4 => [s.hl]
      | 0, .o2, .o6 => [s.hl]
      | 0, .o4, .o6 => [s.hl]
      | 0, .o5, .o6 => [s.hl]
      | 0, .o6, .o6 => [s.hl]
      | 1, z, .o6 => if z = .o6 then [] else [s.hl]
      | 3, .o2, .o4 => [highPage s.c]
      | 3, .o5, y => if y.value % 2 = 0 ∨ op = 0xCD#8 then pushAddresses s.sp else []
      | 3, .o7, _ => pushAddresses s.sp
      | _, _, _ => []

/-- A write at `a` is a store or a forwarded access, not a write to a control register: outside the cartridge
ROM region, whose writes are control writes (20_memory.md R116), and not the boot-status address (R105). -/
def isDataAddress (a : Word) : Bool :=
  match regionOf a with
  | .cartRom => false
  | .bootStatus => false
  | _ => true

/-! ## The instruction stream -/

/-- The next `n` bytes of the instruction stream, in order (00_scope.md R14). -/
def fetchBytes : Nat → Exec (List Byte)
  | 0 => pure []
  | n + 1 => do
    let v ← fetch8
    let vs ← fetchBytes n
    pure (v :: vs)

/-! ## The codes of the encodings, as numbers (30_encoding.md R182, R184-R186, R194) -/

/-- The 3-bit register code (R184). -/
def codeOfReg : Reg → Nat
  | .b => 0
  | .c => 1
  | .d => 2
  | .e => 3
  | .h => 4
  | .l => 5
  | .a => 7

/-- The 3-bit code of an operand: 6 is (HL) (R184). -/
def codeOfOperand : Operand → Nat
  | .reg r => codeOfReg r
  | .memHl => 6

/-- The 2-bit code of `rp` (R185). -/
def codeOfPair : Pair → Nat
  | .bc => 0
  | .de => 1
  | .hl => 2
  | .sp => 3

/-- The 2-bit code of `rp2` (R185). -/
def codeOfStackPair : StackPair → Nat
  | .bc => 0
  | .de => 1
  | .hl => 2
  | .af => 3

/-- The condition code (R186). -/
def codeOfCond : Cond → Nat
  | .nz => 0
  | .z => 1
  | .nc => 2
  | .c => 3

/-- The operation field of the ALU group (R194). -/
def codeOfAlu : AluOp → Nat
  | .add => 0
  | .adc => 1
  | .sub => 2
  | .sbc => 3
  | .and => 4
  | .xor => 5
  | .or => 6
  | .cp => 7

/-- The operation field of the rotate and shift group (R182). -/
def codeOfRot : RotOp → Nat
  | .rlc => 0
  | .rrc => 1
  | .rl => 2
  | .rr => 3
  | .sla => 4
  | .sra => 5
  | .swap => 6
  | .srl => 7

/-- A byte written as a number. -/
def byteOf (n : Nat) : Byte := BitVec.ofNat 8 n

/-- The length of the instruction an opcode byte starts (column `length` of opcode_table.json, R180, R196). -/
def lengthOfOpcode (op : Byte) : Nat :=
  if op ∈ [0x01#8, 0x08#8, 0x11#8, 0x21#8, 0x31#8, 0xC2#8, 0xC3#8, 0xC4#8, 0xCA#8, 0xCC#8, 0xCD#8, 0xD2#8,
      0xD4#8, 0xDA#8, 0xDC#8, 0xEA#8, 0xFA#8] then 3
  else if op ∈ [0x06#8, 0x0E#8, 0x10#8, 0x16#8, 0x18#8, 0x1E#8, 0x20#8, 0x26#8, 0x28#8, 0x2E#8, 0x30#8,
      0x36#8, 0x38#8, 0x3E#8, 0xC6#8, 0xCB#8, 0xCE#8, 0xD6#8, 0xDE#8, 0xE0#8, 0xE6#8, 0xE8#8, 0xEE#8, 0xF0#8,
      0xF6#8, 0xF8#8, 0xFE#8] then 2
  else 1

/-- The state an instruction leaves when an access of it stops: the state reached, with FAULT or MARK
(60_exceptions.md R432, R433, R436). `s` is the state the instruction starts on, after its fetch. -/
def stopped (i : Instr) (s reached : State) (why : Stop) : State :=
  reached.endRun why (s.firstByteOf i) (some i.opcode)

end Sys2Proof.Machine
end

