-- ==== Sys2Proof/Certificates/Slice0/Obligations.lean ====
section
/-! DEFINITION. The statements for the provers, from the numbered rules of spec/. In every statement about
exec, `s` is the state after the instruction's bytes have been fetched (PC is past its last byte, 10_state.md
R39): that is the state step hands to exec. Clauses on `encode` state the rule's Encoding entry. -/

open Sys2Proof Sys2Proof.Machine

/-! ## Encoding -/

/-- 30_encoding.md R198 (the six values the document gives), R192, R193, R195: words written out from the
spec's maps decode to the instructions they stand for. -/
def Obligations.SampleWordsDecode : Prop :=
  decode [0x06#8, 0x11#8] = .ok (.ldBD8 0x11#8, []) ∧
  decode [0x07#8] = .ok (.rlca, []) ∧
  decode [0x76#8] = .ok (.halt, []) ∧
  decode [0x80#8] = .ok (.addAB, []) ∧
  decode [0x87#8] = .ok (.addAA, []) ∧
  decode [0xCB#8, 0x7C#8] = .ok (.bit7H, []) ∧
  decode [0x08#8, 0x34#8, 0x12#8] = .ok (.ldMemA16Sp 0x1234#16, []) ∧
  decode [0x2A#8] = .ok (.ldAMemHlInc, []) ∧
  decode [0xE0#8, 0x50#8] = .ok (.ldhMemA8A 0x50#8, []) ∧
  decode [0xF5#8] = .ok (.pushAf, []) ∧
  decode [0x39#8] = .ok (.addHlSp, []) ∧
  decode [0xDC#8, 0x00#8, 0x02#8] = .ok (.callCA16 0x0200#16, []) ∧
  decode [0xEF#8] = .ok (.rst28, []) ∧
  decode [0xCB#8, 0x36#8] = .ok (.swapMemHl, []) ∧
  decode [0xD3#8] = .ok (.illegalD3, []) ∧
  decode [0xFD#8] = .ok (.illegalFD, [])

/-- 30_encoding.md R191-R193 and log entry 11: the decoder undoes the encoder on every instruction at every
operand, whatever bytes follow. -/
def Obligations.DecodeUndoesEncode : Prop :=
  ∀ (i : Instr) (rest : List Byte), i.wellFormed = true → decode (encode i ++ rest) = .ok (i, rest)

/-- 30_encoding.md R191: bytes have one meaning. Whatever the decoder reads is well formed and is written by
the encoder as the bytes it was read from. -/
def Obligations.EncodeUndoesDecode : Prop :=
  ∀ (bytes rest : List Byte) (i : Instr),
    decode bytes = .ok (i, rest) → i.wellFormed = true ∧ encode i ++ rest = bytes

/-- 30_encoding.md R191 "Decoding is pure and total", R180, R196: every three bytes start with an instruction,
whose length the first byte alone fixes, as the table's `length` column says. -/
def Obligations.DecodingIsTotal : Prop :=
  ∀ (op b1 b2 : Byte) (rest : List Byte),
    ∃ i tail, decode (op :: b1 :: b2 :: rest) = .ok (i, tail) ∧ i.length = lengthOfOpcode op ∧
      1 ≤ i.length ∧ i.length ≤ 3 ∧ tail.length + i.length = rest.length + 3

/-! ## Registers and construction -/

/-- 10_state.md R32, R33 (90_conflicts.md C1): a write to a pair changes exactly its two registers, the
first-named one with the high byte; BC, DE and HL read back the value, AF reads back v & 0xFFF0. -/
def Obligations.PairViewsRoundTrip : Prop :=
  ∀ (s : State) (v : Word),
    (s.setBc v).bc = v ∧ (s.setDe v).de = v ∧ (s.setHl v).hl = v ∧ (s.setAf v).af = v &&& 0xFFF0#16 ∧
    s.setBc v = { s with b := v.extractLsb' 8 8, c := v.extractLsb' 0 8 } ∧
    s.setDe v = { s with d := v.extractLsb' 8 8, e := v.extractLsb' 0 8 } ∧
    s.setHl v = { s with h := v.extractLsb' 8 8, l := v.extractLsb' 0 8 } ∧
    s.setAf v = { s with a := v.extractLsb' 8 8, f := v.extractLsb' 0 8 &&& 0xF0#8 } ∧
    s.bc.toNat = s.b.toNat * 256 + s.c.toNat ∧ s.de.toNat = s.d.toNat * 256 + s.e.toNat ∧
    s.hl.toNat = s.h.toNat * 256 + s.l.toNat ∧ s.af.toNat = s.a.toNat * 256 + s.f.toNat

/-- 10_state.md R36: writing a flag changes F only, the flag reads back, every other flag reads as before; and
where F's low nibble is zero (an invariant, StepKeepsInvariant) every other bit of F stays. -/
def Obligations.FlagsAreIndependent : Prop :=
  ∀ (s : State) (x : Flag) (v : Bool),
    s.setFlag x v = { s with f := (s.setFlag x v).f } ∧
    (∀ y, (s.setFlag x v).flag y = if y = x then v else s.flag y) ∧
    (s.flagsLegal → ∀ k, k ≠ x.bit → (s.setFlag x v).f.getLsbD k = s.f.getLsbD k)

/-- 30_encoding.md R184: the operand of a 3-bit code is the register, or for code 6 the byte at HL. -/
def Obligations.OperandAccess : Prop :=
  ∀ (r : Reg) (v : Byte) (s : State),
    readOperand (.reg r) s = .ok (s.getReg r) s ∧
    readOperand .memHl s = memRead s.hl s ∧
    writeOperand (.reg r) v s = .ok () (s.setReg r v) ∧
    writeOperand .memHl v s = memWrite s.hl v s ∧
    (∀ q, (s.setReg r v).getReg q = if q = r then v else s.getReg q) ∧
    Operand.ofCode .o6 = .memHl ∧
    (∀ c : Octal, c ≠ .o6 → ∃ q, Operand.ofCode c = .reg q ∧ codeOfReg q = c.value)

/-- 10_state.md R55 (70_reset_and_hazards.md R471): every piece of state right after construction. -/
def Obligations.ResetState : Prop :=
  ∀ (image : List Byte) (p : Params) (s : State), construct image p = .ok s →
    s.a = 0x00#8 ∧ s.b = 0x00#8 ∧ s.c = 0x00#8 ∧ s.d = 0x00#8 ∧ s.e = 0x00#8 ∧ s.h = 0x00#8 ∧ s.l = 0x00#8 ∧
    s.f = 0x00#8 ∧ (∀ x, s.flag x = false) ∧ s.sp = p.resetSp ∧ s.pc = p.resetPc ∧
    ({} : Params).resetSp = 0xFFFE#16 ∧ ({} : Params).resetPc = 0x0000#16 ∧
    s.run = .running ∧ s.ime = false ∧ s.fault = none ∧ s.bootOff = false ∧ s.cycles = 0 ∧ s.mark = .none ∧
    (∀ k v, k < 0x2000 → p.initWram[k]? = some v → s.wram.read k = v) ∧
    (∀ k v, k < 0x2000 → p.initVram[k]? = some v → s.vram.read k = v) ∧
    (∀ k v, k < 0xA0 → p.initOam[k]? = some v → s.oam.read k = v) ∧
    (∀ k v, k < s.cramSize → p.initCram[k]? = some v → s.cram.read k = v) ∧
    (∀ m, s.mapper = .mbc1 m → m.ramEn = false ∧ m.romBank = 1#7 ∧ m.ramBank = 0#2 ∧ m.mode = .rom) ∧
    s.romSize = image.length ∧ (∀ k v, image[k]? = some v → s.rom.read k = v) ∧
    variantOf (imageByte image 0x147) = some s.mapper.variant ∧
    s.cramSize = ramSizeOf (imageByte image 0x149)

/-- 20_memory.md R120-R122, R124: what the header decides. An image shorter than 0x150 bytes fails with
InvalidAddress; a listed type byte gives its variant, any other fails with UnsupportedCartridgeType; the
RAM-size code gives CRAM_SIZE. -/
def Obligations.HeaderDecides : Prop :=
  let typeRows : List (Nat × Variant) :=
    [(0x00, .romOnly), (0x08, .romOnly), (0x09, .romOnly), (0x01, .mbc1), (0x02, .mbc1), (0x03, .mbc1),
     (0x05, .mbc2), (0x06, .mbc2), (0x0F, .mbc3), (0x10, .mbc3), (0x11, .mbc3), (0x12, .mbc3), (0x13, .mbc3),
     (0x19, .mbc5 false), (0x1A, .mbc5 false), (0x1B, .mbc5 false), (0x1C, .mbc5 true), (0x1D, .mbc5 true),
     (0x1E, .mbc5 true)]
  let ramRows : List (Nat × Nat) :=
    [(0x00, 0), (0x01, 2048), (0x02, 8192), (0x03, 32768), (0x04, 131072), (0x05, 65536)]
  ∀ (image : List Byte) (p : Params),
    (image.length < 0x150 → construct image p = .error .invalidAddress) ∧
    (0x150 ≤ image.length → (∀ v, ((imageByte image 0x147).toNat, v) ∉ typeRows) →
      construct image p = .error .unsupportedCartridgeType) ∧
    (0x150 ≤ image.length → ∀ v, ((imageByte image 0x147).toNat, v) ∈ typeRows →
      ∃ s, construct image p = .ok s ∧ s.mapper.variant = v ∧
        (∀ n, ((imageByte image 0x149).toNat, n) ∈ ramRows → s.cramSize = n) ∧
        ((∀ n, ((imageByte image 0x149).toNat, n) ∉ ramRows) → s.cramSize = 0))

/-- The invariant holds where a run starts: State.reset (the model's choice of image and contents, log entries
5 and 6) and every constructed state (10_state.md R31, R50, R55). -/
def Obligations.ResetHasInvariant : Prop :=
  State.reset.Inv ∧ ∀ (image : List Byte) (p : Params) (s : State), construct image p = .ok s → s.Inv

/-! ## The address space and the cartridge -/

/-- 20_memory.md R90, R91: the two access primitives, in the rules' own order of tests. -/
def Obligations.MultiplexerDispatch : Prop :=
  ∀ (a : Word) (v : Byte) (s : State),
    (memRead a s =
      if a.toNat ≤ 0x00FF ∧ s.bootOff = false then .ok (s.boot.read a.toNat) s
      else if a.toNat ≤ 0x7FFF then cartRead a s
      else if a.toNat ≤ 0x9FFF then .ok (s.vram.read (a.toNat - 0x8000)) s
      else if a.toNat ≤ 0xBFFF then cartRead a s
      else if a.toNat ≤ 0xDFFF then .ok (s.wram.read (a.toNat - 0xC000)) s
      else if a.toNat ≤ 0xFDFF then .ok (s.wram.read (a.toNat - 0xE000)) s
      else if a.toNat ≤ 0xFE9F then .ok (s.oam.read (a.toNat - 0xFE00)) s
      else if a.toNat ≤ 0xFEFF then .error (.raised .invalidAddress a none) s
      else if a.toNat = 0xFF50 then .ok (if s.bootOff then 0xFF#8 else 0xFE#8) s
      else ioRead a s) ∧
    (memWrite a v s =
      if a.toNat ≤ 0x7FFF then cartWrite a v s
      else if a.toNat ≤ 0x9FFF then .ok () { s with vram := s.vram.write (a.toNat - 0x8000) v }
      else if a.toNat ≤ 0xBFFF then cartWrite a v s
      else if a.toNat ≤ 0xDFFF then .ok () { s with wram := s.wram.write (a.toNat - 0xC000) v }
      else if a.toNat ≤ 0xFDFF then .ok () { s with wram := s.wram.write (a.toNat - 0xE000) v }
      else if a.toNat ≤ 0xFE9F then .ok () { s with oam := s.oam.write (a.toNat - 0xFE00) v }
      else if a.toNat ≤ 0xFEFF then .error (.raised .invalidAddress a none) s
      else if a.toNat = 0xFF50 then .ok () (if v = 0x00#8 then s else { s with bootOff := true })
      else ioWrite a v s)

/-- 20_memory.md R83, R87, R104: a read changes no CORE state; a read outside the forwarded window leaves the
whole state as it was, so a second read gives the same byte; a read that stops changes nothing at all. The two
fields a forwarded read changes are the model's own (log entry 3); R87 is marked derived by the spec. -/
def Obligations.ReadsChangeNothing : Prop :=
  ∀ (a : Word) (s s' : State),
    (∀ v, memRead a s = .ok v s' →
      s' = { s with ioAnswers := s'.ioAnswers, ioLog := s'.ioLog } ∧
      (regionOf a ≠ .forwarded → s' = s ∧ memRead a s' = .ok v s')) ∧
    (∀ why, memRead a s = .error why s' → s' = s)

/-- 20_memory.md R88, R92-R95, R114: a write to a storage location is performed, is read back from the same
address, and changes the byte of no other location (the addresses of one location have one home: R94). -/
def Obligations.ReadAfterWrite : Prop :=
  ∀ (a : Word) (v : Byte) (s : State), s.storesWf → s.isStorage a = true →
    ∃ s', memWrite a v s = .ok () s' ∧ memRead a s' = .ok v s' ∧ s'.isStorage a = true ∧
      ∀ b, s.home b ≠ s.home a → s'.peek b = s.peek b

/-- 20_memory.md R94, R96, R97, R98: echo RAM is working RAM 0x2000 below; the boot image is mapped at
0x0000-0x00FF while BOOT_OFF = 0 and the cartridge is read there when BOOT_OFF = 1 and always above; a write at
0x0000-0x7FFF always goes to the cartridge controller and never changes the boot image; every access to
0xFEA0-0xFEFF raises InvalidAddress with that address and changes nothing. -/
def Obligations.MapWindows : Prop :=
  ∀ (a : Word) (v : Byte) (s : State),
    (0xE000 ≤ a.toNat ∧ a.toNat ≤ 0xFDFF →
      memRead a s = memRead (a - 0x2000#16) s ∧ memWrite a v s = memWrite (a - 0x2000#16) v s ∧
      (s.storesWf → ∃ s', memWrite a v s = .ok () s' ∧ memRead (a - 0x2000#16) s' = .ok v s')) ∧
    (a.toNat ≤ 0x00FF → s.bootOff = false → memRead a s = .ok (s.boot.read a.toNat) s) ∧
    (a.toNat ≤ 0x7FFF → (s.bootOff = true ∨ 0x0100 ≤ a.toNat) → memRead a s = cartRead a s) ∧
    (a.toNat ≤ 0x7FFF → memWrite a v s = cartWrite a v s ∧
      ∀ s', memWrite a v s = .ok () s' → s'.boot = s.boot) ∧
    (0xFEA0 ≤ a.toNat ∧ a.toNat ≤ 0xFEFF →
      memRead a s = .error (.raised .invalidAddress a none) s ∧
      memWrite a v s = .error (.raised .invalidAddress a none) s ∧
      fetch8 (s.setPc a) = .error (.raised .invalidAddress a none) (s.setPc a))

/-- 20_memory.md R130, R131, R132: the ROM-only cartridge. -/
def Obligations.RomOnlyCartridge : Prop :=
  ∀ (a : Word) (v : Byte) (s : State), s.mapper = .romOnly →
    (a.toNat ≤ 0x7FFF → (0x0100 ≤ a.toNat ∨ s.bootOff = true) →
      memRead a s =
        if a.toNat < s.romSize then .ok (s.rom.read a.toNat) s
        else .error (.raised .invalidAddress a none) s) ∧
    (0xA000 ≤ a.toNat ∧ a.toNat ≤ 0xBFFF → memRead a s = .error (.raised .invalidAddress a none) s) ∧
    (a.toNat ≤ 0x7FFF ∨ (0xA000 ≤ a.toNat ∧ a.toNat ≤ 0xBFFF) →
      memWrite a v s = .error (.raised .illegalWrite a none) s)

/-- 20_memory.md R110, R111, R112, R115, R116: the four control windows of MBC1; nothing but the bank registers
changes, and only the one field the window names. -/
def Obligations.Mbc1ControlWrites : Prop :=
  ∀ (a : Word) (v : Byte) (s : State) (m : Mbc1), s.mapper = .mbc1 m →
    (a.toNat ≤ 0x1FFF →
      memWrite a v s = .ok () { s with mapper := .mbc1 { m with ramEn := decide (v = 0x0A#8) } }) ∧
    (0x2000 ≤ a.toNat ∧ a.toNat ≤ 0x3FFF →
      ∃ bank, memWrite a v s = .ok () { s with mapper := .mbc1 { m with romBank := bank } } ∧
        bank.toNat = m.romBank.toNat / 32 * 32 + (if v.toNat % 32 = 0 then 1 else v.toNat % 32)) ∧
    (0x4000 ≤ a.toNat ∧ a.toNat ≤ 0x5FFF → m.mode = .rom →
      ∃ bank, memWrite a v s = .ok () { s with mapper := .mbc1 { m with romBank := bank } } ∧
        bank.toNat = v.toNat % 4 * 32 + m.romBank.toNat % 32) ∧
    (0x4000 ≤ a.toNat ∧ a.toNat ≤ 0x5FFF → m.mode = .ram →
      ∃ bank, memWrite a v s = .ok () { s with mapper := .mbc1 { m with ramBank := bank } } ∧
        bank.toNat = v.toNat % 4) ∧
    (0x6000 ≤ a.toNat ∧ a.toNat ≤ 0x7FFF →
      memWrite a v s =
        if v = 0x00#8 then .ok () { s with mapper := .mbc1 { m with mode := .rom } }
        else if v = 0x01#8 then .ok () { s with mapper := .mbc1 { m with mode := .ram } }
        else .error (.raised .invalidBankingMode a (some v)) s)

/-- 20_memory.md R113, R114: MBC1's ROM translation and its external RAM. -/
def Obligations.Mbc1Translation : Prop :=
  ∀ (a : Word) (v : Byte) (s : State) (m : Mbc1), s.mapper = .mbc1 m →
    (a.toNat ≤ 0x7FFF → (0x0100 ≤ a.toNat ∨ s.bootOff = true) →
      ∀ off, off = (if a.toNat ≤ 0x3FFF then a.toNat else m.romBank.toNat * 0x4000 + (a.toNat - 0x4000)) →
      memRead a s =
        if off < s.romSize then .ok (s.rom.read off) s else .error (.raised .invalidAddress a none) s) ∧
    (0xA000 ≤ a.toNat ∧ a.toNat ≤ 0xBFFF →
      ∀ off, off = m.ramBank.toNat * 0x2000 + (a.toNat - 0xA000) →
      (memRead a s =
        if m.ramEn = false then .ok 0xFF#8 s
        else if off < s.cramSize then .ok (s.cram.read off) s
        else .error (.raised .invalidAddress a none) s) ∧
      (memWrite a v s =
        if m.ramEn = false then .ok () s
        else if off < s.cramSize then .ok () { s with cram := s.cram.write off v }
        else .error (.raised .invalidAddress a none) s))

/-- 20_memory.md R140 (60_exceptions.md R436): with OTHER_MBC_MODE = refuse the other variants show the image
as banks 0 and 1, and every write and every external-RAM read is refused without any effect. -/
def Obligations.OtherVariantsRefuse : Prop :=
  ∀ (a : Word) (v : Byte) (s : State), s.cfg.otherMbc = .refuse →
    (∀ m, s.mapper ≠ .mbc1 m) → s.mapper ≠ .romOnly →
    (a.toNat ≤ 0x7FFF → (0x0100 ≤ a.toNat ∨ s.bootOff = true) →
      memRead a s =
        if a.toNat < s.romSize then .ok (s.rom.read a.toNat) s
        else .error (.raised .invalidAddress a none) s) ∧
    (0xA000 ≤ a.toNat ∧ a.toNat ≤ 0xBFFF → memRead a s = .error .refused s) ∧
    (a.toNat ≤ 0x7FFF ∨ (0xA000 ≤ a.toNat ∧ a.toNat ≤ 0xBFFF) → memWrite a v s = .error .refused s)

/-- 20_memory.md R141, R142, R143: the reference profiles of the MBC2, MBC3 and MBC5 classes: the registers at
reset, control writes, ROM reads and RAM accesses. -/
def Obligations.ReferenceProfiles : Prop :=
  (∀ (image : List Byte) (p : Params) (s : State), construct image p = .ok s →
    (∀ m, s.mapper = .mbc2 m → m.ramEn = false ∧ m.romBank = 1#4 ∧
      ∀ k v, k < 512 → p.initCram[k]? = some v → s.cram2.read k = v &&& 0x0F#8) ∧
    (∀ m, s.mapper = .mbc3 m → m.ramEn = false ∧ m.romBank = 1#7 ∧ m.sel = 0#2) ∧
    (∀ r m, s.mapper = .mbc5 r m → m.ramEn = false ∧ m.romBank = 1#9 ∧ m.ramBank = 0#4)) ∧
  ∀ (a : Word) (v : Byte) (s : State), s.cfg.otherMbc = .reference →
    (∀ bank : Nat,
      ((∃ m, s.mapper = .mbc2 m ∧ bank = m.romBank.toNat) ∨ (∃ m, s.mapper = .mbc3 m ∧ bank = m.romBank.toNat) ∨
        (∃ r m, s.mapper = .mbc5 r m ∧ bank = m.romBank.toNat)) →
      a.toNat ≤ 0x7FFF → (0x0100 ≤ a.toNat ∨ s.bootOff = true) →
      ∀ off, off = (if a.toNat ≤ 0x3FFF then a.toNat else bank * 0x4000 + (a.toNat - 0x4000)) →
      memRead a s =
        if off < s.romSize then .ok (s.rom.read off) s else .error (.raised .invalidAddress a none) s) ∧
    (∀ (en : Bool) (bank : Nat),
      ((∃ m, s.mapper = .mbc3 m ∧ en = m.ramEn ∧ bank = m.sel.toNat) ∨
        (∃ r m, s.mapper = .mbc5 r m ∧ en = m.ramEn ∧ bank = m.ramBank.toNat)) →
      0xA000 ≤ a.toNat ∧ a.toNat ≤ 0xBFFF →
      ∀ off, off = bank * 0x2000 + (a.toNat - 0xA000) →
      (memRead a s =
        if en = false then .ok 0xFF#8 s
        else if off < s.cramSize then .ok (s.cram.read off) s
        else .error (.raised .invalidAddress a none) s) ∧
      (memWrite a v s =
        if en = false then .ok () s
        else if off < s.cramSize then .ok () { s with cram := s.cram.write off v }
        else .error (.raised .invalidAddress a none) s)) ∧
    (∀ m, s.mapper = .mbc2 m →
      (a.toNat ≤ 0x3FFF →
        memWrite a v s = .ok () { s with mapper := .mbc2 (
          if a.toNat / 256 % 2 = 0 then { m with ramEn := decide (v.toNat % 16 = 0xA) }
          else { m with romBank := BitVec.ofNat 4 (if v.toNat % 16 = 0 then 1 else v.toNat % 16) }) }) ∧
      (0x4000 ≤ a.toNat ∧ a.toNat ≤ 0x7FFF → memWrite a v s = .ok () s) ∧
      (0xA000 ≤ a.toNat ∧ a.toNat ≤ 0xBFFF →
        memRead a s = .ok (if m.ramEn then 0xF0#8 ||| s.cram2.read (a.toNat % 512) else 0xFF#8) s ∧
        memWrite a v s =
          .ok () (if m.ramEn then { s with cram2 := s.cram2.write (a.toNat % 512) (v &&& 0x0F#8) } else s))) ∧
    (∀ m, s.mapper = .mbc3 m →
      (a.toNat ≤ 0x1FFF →
        memWrite a v s =
          .ok () { s with mapper := .mbc3 { m with ramEn := decide (v.toNat % 16 = 0xA) } }) ∧
      (0x2000 ≤ a.toNat ∧ a.toNat ≤ 0x3FFF →
        memWrite a v s = .ok () { s with mapper := .mbc3 { m with
          romBank := BitVec.ofNat 7 (if v.toNat % 128 = 0 then 1 else v.toNat % 128) } }) ∧
      (0x4000 ≤ a.toNat ∧ a.toNat ≤ 0x5FFF →
        memWrite a v s =
          if v.toNat ≤ 3 then .ok () { s with mapper := .mbc3 { m with sel := BitVec.ofNat 2 v.toNat } }
          else .error .refused s) ∧
      (0x6000 ≤ a.toNat ∧ a.toNat ≤ 0x7FFF → memWrite a v s = .ok () s)) ∧
    (∀ r m, s.mapper = .mbc5 r m →
      (a.toNat ≤ 0x1FFF →
        memWrite a v s = .ok () { s with mapper := .mbc5 r { m with ramEn := decide (v = 0x0A#8) } }) ∧
      (0x2000 ≤ a.toNat ∧ a.toNat ≤ 0x2FFF →
        memWrite a v s = .ok () { s with mapper := .mbc5 r { m with
          romBank := BitVec.ofNat 9 (m.romBank.toNat / 256 * 256 + v.toNat) } }) ∧
      (0x3000 ≤ a.toNat ∧ a.toNat ≤ 0x3FFF →
        memWrite a v s = .ok () { s with mapper := .mbc5 r { m with
          romBank := BitVec.ofNat 9 (v.toNat % 2 * 256 + m.romBank.toNat % 256) } }) ∧
      (0x4000 ≤ a.toNat ∧ a.toNat ≤ 0x5FFF →
        memWrite a v s = .ok () { s with mapper := .mbc5 r { m with
          ramBank := BitVec.ofNat 4 (if r then v.toNat % 8 else v.toNat % 16) } }) ∧
      (0x6000 ≤ a.toNat ∧ a.toNat ≤ 0x7FFF → memWrite a v s = .ok () s))

/-- 60_exceptions.md R431: exactly which reads, writes and fetches raise, by the rule's tables (readStop and
writeStop of Safety.lean, with the refused SEL values of 20_memory.md R142 and the out-of-range external RAM of
R142 and R143, which the tables leave to those rules); every other access is performed. -/
def Obligations.AccessErrors : Prop :=
  ∀ (a : Word) (v : Byte) (s : State),
    (∀ why, s.readStop a = some why → memRead a s = .error why s) ∧
    (s.readStop a = none → ∃ x s', memRead a s = .ok x s') ∧
    (∀ why, s.writeStop a v = some why → memWrite a v s = .error why s) ∧
    (s.writeStop a v = none → ∃ s', memWrite a v s = .ok () s') ∧
    (∀ why, s.readStop s.pc = some why → fetch8 s = .error why s) ∧
    (s.readStop s.pc = none → ∃ x s', fetch8 s = .ok x s' ∧ s'.pc = s.pc + 1#16)

/-- 20_memory.md R104 (log entry 3): a forwarded access is one event, in program order, and changes no CORE
state; any byte can be the answer of a forwarded read. -/
def Obligations.ForwardedAccesses : Prop :=
  ∀ (a : Word) (s : State), 0xFF00 ≤ a.toNat → a.toNat ≠ 0xFF50 →
    (∀ v rest, s.ioAnswers = v :: rest →
      memRead a s = .ok v { s with ioAnswers := rest, ioLog := .read a v :: s.ioLog }) ∧
    (∃ v, memRead a s = .ok v { s with ioAnswers := s.ioAnswers.tail, ioLog := .read a v :: s.ioLog }) ∧
    (∀ v, memWrite a v s = .ok () { s with ioLog := .write a v :: s.ioLog })

/-! ## The step -/

/-- 30_encoding.md R190 (00_scope.md R14, 10_state.md R39): when the bytes of the instruction stream at PC
decode to i, a running step is exec of i on the state after the fetch, whose PC is past the instruction. The
second part says the same of bytes that memory holds, with nothing but PC moved by the fetch. -/
def Obligations.StepRunsDecodedInstruction : Prop :=
  ∀ (s : State) (bytes : List Byte) (i : Instr), s.isRunning = true → decode bytes = .ok (i, []) →
    (∀ s', fetchBytes bytes.length s = .ok bytes s' →
      step s = exec i s' ∧
      s' = { s with
        pc := s.pc + BitVec.ofNat 16 i.length, ioAnswers := s'.ioAnswers, ioLog := s'.ioLog }) ∧
    ((∀ k v, bytes[k]? = some v → s.peek (s.pc + BitVec.ofNat 16 k) = some v) →
      step s = exec i (s.setPc (s.pc + BitVec.ofNat 16 i.length)))

/-- 70_reset_and_hazards.md R475: in a state whose run has ended, a step changes nothing; Halted, Stopped, a
fault and a mark are all terminal. -/
def Obligations.EndedRunsStay : Prop :=
  ∀ (s : State), s.run ≠ .running ∨ s.fault ≠ none ∨ s.mark ≠ .none →
    step s = .next s ∧ ∀ n, runFor n s = .next s

/-- 60_exceptions.md R432-R434, R436 and log entries 1, 2 (92_eei_decisions.md D36 warns against relying on the
state after a fault other than FAULT): every step answers a next state; a step that ends in an error or a
refusal leaves every register but PC and SP, every flag, IME, RUN and CYCLES as they were; FAULT names the
instruction's address, its opcode if fetched, an address and, for InvalidBankingMode only, a value; the kinds
UnsupportedCartridgeType and InvalidOperand are never raised (R435, 45_system.md R407). -/
def Obligations.ErrorsAreReported : Prop :=
  ∀ (s : State), s.isRunning = true →
    ∃ t, step s = .next t ∧
      (t.fault ≠ none ∨ t.mark = .refused →
        t = { s with
          pc := t.pc, sp := t.sp, wram := t.wram, vram := t.vram, oam := t.oam, cram := t.cram
          cram2 := t.cram2, mapper := t.mapper, bootOff := t.bootOff, ioAnswers := t.ioAnswers
          ioLog := t.ioLog, fault := t.fault, mark := t.mark }) ∧
      (∀ r, t.fault = some r →
        r.pc = s.pc ∧ r.address ≠ none ∧ t.mark = .none ∧
        (r.kind = .invalidAddress ∨ r.kind = .illegalWrite ∨ r.kind = .invalidBankingMode) ∧
        (r.value ≠ none ↔ r.kind = .invalidBankingMode) ∧
        (s.readStop s.pc ≠ none → r.opcode = none ∧ r.address = some s.pc) ∧
        (∀ op s1, fetch8 s = .ok op s1 →
          (op ≠ 0xCB#8 → r.opcode = some (.plain op)) ∧
          (op = 0xCB#8 → ∀ cb s2, fetch8 s1 = .ok cb s2 → r.opcode = some (.extended cb))))

/-- 10_state.md R31, R45-R50, 20_memory.md R141, R142: every step keeps every store in its canonical form and
inside its array, F's bits 3..0 zero, and the bank registers at legal values. The canonical form is the model's
(log entry 5), and so is holding CRAM2's cells as low nibbles (log entry 20). -/
def Obligations.StepKeepsInvariant : Prop :=
  ∀ (s t : State), s.Inv → step s = .next t → t.Inv

/-- 10_state.md R48, R51: ROM, VARIANT, CRAM_SIZE, the boot image and the modes are configuration; no step
changes them. -/
def Obligations.StepKeepsMachine : Prop :=
  ∀ (s t : State), step s = .next t → s.sameMachine t

/-- 20_memory.md R105, 10_state.md R43: the boot-status address; BOOT_OFF is never cleared, and only a write to
0xFF50 sets it. -/
def Obligations.BootLatch : Prop :=
  (∀ (v : Byte) (s : State),
    memWrite 0xFF50#16 v s = .ok () { s with bootOff := s.bootOff || decide (v ≠ 0x00#8) } ∧
    memRead 0xFF50#16 s = .ok (0xFE#8 ||| (if s.bootOff then 1#8 else 0#8)) s) ∧
  (∀ (s t : State), step s = .next t → s.bootOff = true → t.bootOff = true) ∧
  (∀ (i : Instr) (s t : State), exec i s = .next t → t.bootOff ≠ s.bootOff →
    0xFF50#16 ∈ storeAddresses i s)

/-- 60_exceptions.md R450: a run ends in exactly one of the ways of the rule: at most one of RUN, FAULT and MARK
says so in a constructed state and after every step, and the run goes on exactly while none does. -/
def Obligations.OneEnding : Prop :=
  (∀ (image : List Byte) (p : Params) (s : State), construct image p = .ok s →
    s.atMostOneEnding ∧ endingOf s = none) ∧
  (∀ (s t : State), s.atMostOneEnding → step s = .next t → t.atMostOneEnding) ∧
  (∀ s : State, endingOf s = none ↔ s.isRunning = true) ∧
  (∀ s : State, s.atMostOneEnding →
    (endingOf s = some .halt ↔ s.run = .halted) ∧ (endingOf s = some .stop ↔ s.run = .stopped) ∧
    (endingOf s = some .error ↔ s.fault ≠ none) ∧ (endingOf s = some .refusal ↔ s.mark = .refused) ∧
    (endingOf s = some .lock ↔ s.mark = .locked))

/-- 10_state.md R40 "No rule of this spec reads IME", R44 "No instruction reads CYCLES" (60_exceptions.md R440,
70_reset_and_hazards.md R486): a step from states that differ in IME and CYCLES only ends in states that differ
in them only, with the same cycles added. -/
def Obligations.ImeAndCyclesAreNotRead : Prop :=
  ∀ (s t : State) (b : Bool) (n : Nat), step s = .next t →
    ∃ t', step { s with ime := b, cycles := n } = .next t' ∧
      t' = { t with ime := t'.ime, cycles := t'.cycles } ∧
      t'.cycles + s.cycles = t.cycles + n ∧
      (t'.ime = t.ime ∨ (t'.ime = b ∧ t.ime = s.ime))

/-! ## Frames over every instruction -/

/-- 10_state.md R37 (which the spec marks derived from the instruction rules): an instruction outside the flag
writers leaves F as it was. -/
def Obligations.FlagFrame : Prop :=
  ∀ (i : Instr) (s t : State), exec i s = .next t → writesFlags i = false → t.f = s.f

/-- 10_state.md R38, R39, R40: only the listed instructions change SP, only control transfers write PC after
the fetch, and only DI, EI and RETI write IME. -/
def Obligations.SpPcImeFrame : Prop :=
  ∀ (i : Instr) (s t : State), exec i s = .next t →
    (changesSp i = false → t.sp = s.sp) ∧
    (transfersControl i = false → t.pc = s.pc) ∧
    (writesIme i = false → t.ime = s.ime)

/-- 10_state.md R34 (which the spec marks derived from the instruction rules): a register other than the
instruction's destinations keeps its value. -/
def Obligations.RegisterFrame : Prop :=
  ∀ (i : Instr) (s t : State) (r : Reg), exec i s = .next t → r ∉ destinationRegs i → t.getReg r = s.getReg r

/-- The memory frame, for every instruction (40_loads.md, 41_alu8.md, 43_rotate_shift_bit.md, 44_control.md,
45_system.md): where the instruction stores to no control window, every byte that is not one of the bytes
stored (storeAddresses, computed as the pseudocode computes them) reads as before; a form that stores nothing
leaves every byte. -/
def Obligations.MemoryFrame : Prop :=
  ∀ (i : Instr) (s t : State), exec i s = .next t →
    (∀ b, (∀ a ∈ storeAddresses i s, isDataAddress a = true ∧ s.home a ≠ s.home b) → t.peek b = s.peek b) ∧
    (storeAddresses i s = [] → ∀ b, t.peek b = s.peek b)

/-- 10_state.md R41, R50, R56: RUN changes only by HALT and STOP; MARK only by a refusal or an unassigned
byte; the bank registers only by a write to 0x0000-0x7FFF. -/
def Obligations.ControlStateFrame : Prop :=
  ∀ (i : Instr) (s t : State), exec i s = .next t →
    (t.run ≠ s.run → (i = .halt ∧ t.run = .halted) ∨ (∃ n, i = .stop n ∧ t.run = .stopped)) ∧
    (t.mark ≠ s.mark →
      t.mark = .refused ∨
      (t.mark = .locked ∧ s.cfg.illegalOpcode = .lock ∧
        i ∈ [.illegalD3, .illegalDB, .illegalDD, .illegalE3, .illegalE4, .illegalEB, .illegalEC, .illegalED,
          .illegalF4, .illegalFC, .illegalFD])) ∧
    (t.mapper ≠ s.mapper → ∃ a ∈ storeAddresses i s, a.toNat ≤ 0x7FFF)

/-! ## Loads, stores and stack -/

/-- 40_loads.md R220, R221, R239, R241: the loads that access no data memory, with their encodings; they
complete in every state and change nothing but the destination and CYCLES. -/
def Obligations.RegisterLoadsComplete : Prop :=
  (∀ (dst src : Reg) (s : State),
    encode (Instr.ldRegReg dst src) = [byteOf (0x40 + 8 * codeOfReg dst + codeOfReg src)] ∧
    exec (Instr.ldRegReg dst src) s = .next ((s.setReg dst (s.getReg src)).addCycles 4)) ∧
  (∀ (r : Reg) (n : Byte) (s : State),
    encode (Instr.ldRegD8 r n) = [byteOf (0x06 + 8 * codeOfReg r), n] ∧
    exec (Instr.ldRegD8 r n) s = .next ((s.setReg r n).addCycles 8)) ∧
  (∀ (p : Pair) (lo hi : Byte) (s : State),
    encode (Instr.ldPairD16 p (hi ++ lo)) = [byteOf (0x01 + 16 * codeOfPair p), lo, hi] ∧
    exec (Instr.ldPairD16 p (hi ++ lo)) s = .next ((s.setPair p (hi ++ lo)).addCycles 12)) ∧
  (∀ s : State, encode .ldSpHl = [0xF9#8] ∧ exec .ldSpHl s = .next ({ s with sp := s.hl }.addCycles 8))

/-- 40_loads.md R222, R225, R226, R229, R231, R233: the loads from memory, with their encodings: where the
read does not stop the destination gets the byte read; where it stops, nothing is loaded. The high-page forms
never stop. -/
def Obligations.MemoryLoadsComplete : Prop :=
  let loads := fun (i : Instr) (address : State → Word) (r : Reg) (cycles : Nat) =>
    ∀ s : State,
      (∀ why, s.readStop (address s) = some why → exec i s = .next (stopped i s s why)) ∧
      (s.readStop (address s) = none →
        ∃ v s1, memRead (address s) s = .ok v s1 ∧ exec i s = .next ((s1.setReg r v).addCycles cycles))
  (∀ r, encode (Instr.ldRegMemHl r) = [byteOf (0x46 + 8 * codeOfReg r)] ∧
    loads (Instr.ldRegMemHl r) State.hl r 8) ∧
  (encode .ldAMemBc = [0x0A#8] ∧ loads .ldAMemBc State.bc .a 8) ∧
  (encode .ldAMemDe = [0x1A#8] ∧ loads .ldAMemDe State.de .a 8) ∧
  (∀ lo hi : Byte, encode (.ldAMemA16 (hi ++ lo)) = [0xFA#8, lo, hi] ∧
    loads (.ldAMemA16 (hi ++ lo)) (fun _ => hi ++ lo) .a 16) ∧
  (∀ n : Byte, encode (.ldhAMemA8 n) = [0xF0#8, n] ∧
    loads (.ldhAMemA8 n) (fun _ => BitVec.ofNat 16 (0xFF00 + n.toNat)) .a 12) ∧
  (encode .ldAMemC = [0xF2#8] ∧ loads .ldAMemC (fun s => BitVec.ofNat 16 (0xFF00 + s.c.toNat)) .a 8) ∧
  (∀ (n : Byte) (s : State), s.readStop (BitVec.ofNat 16 (0xFF00 + n.toNat)) = none)

/-- 40_loads.md R223, R224, R227, R228, R230, R232, R234: the byte stores, with their encodings: where the
write does not stop, what the multiplexer does with the byte is all that happens; where it stops, nothing. The
high-page forms never stop. -/
def Obligations.StoresComplete : Prop :=
  let stores := fun (i : Instr) (address : State → Word) (value : State → Byte) (cycles : Nat) =>
    ∀ s : State,
      (∀ why, s.writeStop (address s) (value s) = some why → exec i s = .next (stopped i s s why)) ∧
      (s.writeStop (address s) (value s) = none →
        ∃ s1, memWrite (address s) (value s) s = .ok () s1 ∧ exec i s = .next (s1.addCycles cycles))
  (∀ r, encode (Instr.ldMemHlReg r) = [byteOf (0x70 + codeOfReg r)] ∧
    stores (Instr.ldMemHlReg r) State.hl (fun s => s.getReg r) 8) ∧
  (∀ n : Byte, encode (.ldMemHlD8 n) = [0x36#8, n] ∧ stores (.ldMemHlD8 n) State.hl (fun _ => n) 12) ∧
  (encode .ldMemBcA = [0x02#8] ∧ stores .ldMemBcA State.bc State.a 8) ∧
  (encode .ldMemDeA = [0x12#8] ∧ stores .ldMemDeA State.de State.a 8) ∧
  (∀ lo hi : Byte, encode (.ldMemA16A (hi ++ lo)) = [0xEA#8, lo, hi] ∧
    stores (.ldMemA16A (hi ++ lo)) (fun _ => hi ++ lo) State.a 16) ∧
  (∀ n : Byte, encode (.ldhMemA8A n) = [0xE0#8, n] ∧
    stores (.ldhMemA8A n) (fun _ => BitVec.ofNat 16 (0xFF00 + n.toNat)) State.a 12) ∧
  (encode .ldMemCA = [0xE2#8] ∧
    stores .ldMemCA (fun s => BitVec.ofNat 16 (0xFF00 + s.c.toNat)) State.a 8) ∧
  (∀ (n v : Byte) (s : State), s.writeStop (BitVec.ofNat 16 (0xFF00 + n.toNat)) v = none)

/-- 40_loads.md R235-R238: the forms that step HL after the access, modulo 65536, with their encodings; on an
error HL is not stepped. -/
def Obligations.HlStepFormsComplete : Prop :=
  let loadStep := fun (i : Instr) (step : Word) =>
    ∀ s : State,
      (∀ why, s.readStop s.hl = some why → exec i s = .next (stopped i s s why)) ∧
      (s.readStop s.hl = none → ∃ v s1, memRead s.hl s = .ok v s1 ∧
        exec i s = .next (({ s1 with a := v }.setHl (s.hl + step)).addCycles 8))
  let storeStep := fun (i : Instr) (step : Word) =>
    ∀ s : State,
      (∀ why, s.writeStop s.hl s.a = some why → exec i s = .next (stopped i s s why)) ∧
      (s.writeStop s.hl s.a = none → ∃ s1, memWrite s.hl s.a s = .ok () s1 ∧
        exec i s = .next ((s1.setHl (s.hl + step)).addCycles 8))
  (encode .ldAMemHlInc = [0x2A#8] ∧ loadStep .ldAMemHlInc 0x0001#16) ∧
  (encode .ldAMemHlDec = [0x3A#8] ∧ loadStep .ldAMemHlDec 0xFFFF#16) ∧
  (encode .ldMemHlIncA = [0x22#8] ∧ storeStep .ldMemHlIncA 0x0001#16) ∧
  (encode .ldMemHlDecA = [0x32#8] ∧ storeStep .ldMemHlDecA 0xFFFF#16)

/-- 40_loads.md R240: LD (a16),SP writes the low byte at a16, then the high byte at a16 + 1 modulo 65536; if
the second write stops, the first has happened. -/
def Obligations.StoreSpCompletes : Prop :=
  ∀ (lo hi : Byte) (s : State) (addr : Word), addr = hi ++ lo →
    encode (.ldMemA16Sp addr) = [0x08#8, lo, hi] ∧
    (∀ why, s.writeStop addr (s.sp.extractLsb' 0 8) = some why →
      exec (.ldMemA16Sp addr) s = .next (stopped (.ldMemA16Sp addr) s s why)) ∧
    (s.writeStop addr (s.sp.extractLsb' 0 8) = none →
      ∃ s1, memWrite addr (s.sp.extractLsb' 0 8) s = .ok () s1 ∧
        (∀ why, s1.writeStop (addr + 1#16) (s.sp.extractLsb' 8 8) = some why →
          exec (.ldMemA16Sp addr) s = .next (stopped (.ldMemA16Sp addr) s s1 why)) ∧
        (s1.writeStop (addr + 1#16) (s.sp.extractLsb' 8 8) = none →
          ∃ s2, memWrite (addr + 1#16) (s.sp.extractLsb' 8 8) s1 = .ok () s2 ∧
            exec (.ldMemA16Sp addr) s = .next (s2.addCycles 20)))

/-- 40_loads.md R242, R244: the two stack primitives. Push16 decrements SP before each byte and writes the high
byte first; Pop16 reads the low byte first and increments SP after each byte. If an access stops, what happened
before it remains. -/
def Obligations.StackPrimitives : Prop :=
  (∀ (v : Word) (s s0 : State), s0 = { s with sp := s.sp - 1#16 } →
    (∀ why, s0.writeStop (s.sp - 1#16) (v.extractLsb' 8 8) = some why → push16 v s = .error why s0) ∧
    (s0.writeStop (s.sp - 1#16) (v.extractLsb' 8 8) = none →
      ∃ s1, memWrite (s.sp - 1#16) (v.extractLsb' 8 8) s0 = .ok () s1 ∧
        ∀ s2, s2 = { s1 with sp := s.sp - 2#16 } →
          (∀ why, s2.writeStop (s.sp - 2#16) (v.extractLsb' 0 8) = some why → push16 v s = .error why s2) ∧
          (s2.writeStop (s.sp - 2#16) (v.extractLsb' 0 8) = none →
            ∃ s3, memWrite (s.sp - 2#16) (v.extractLsb' 0 8) s2 = .ok () s3 ∧ push16 v s = .ok () s3))) ∧
  (∀ s : State,
    (∀ why, s.readStop s.sp = some why → pop16 s = .error why s) ∧
    (s.readStop s.sp = none →
      ∃ lo s1, memRead s.sp s = .ok lo s1 ∧
        ∀ s2, s2 = { s1 with sp := s.sp + 1#16 } →
          (∀ why, s2.readStop (s.sp + 1#16) = some why → pop16 s = .error why s2) ∧
          (s2.readStop (s.sp + 1#16) = none →
            ∃ hi s3, memRead (s.sp + 1#16) s2 = .ok hi s3 ∧
              pop16 s = .ok (hi ++ lo) { s3 with sp := s.sp + 2#16 })))

/-- 40_loads.md R243, R245: PUSH rr and POP rr, with their encodings: they complete exactly when the primitive
does; POP AF stores the popped low byte with bits 3..0 zero, so the four flags are its bits 7..4. -/
def Obligations.PushPopComplete : Prop :=
  (∀ (p : StackPair) (s : State),
    encode (Instr.push p) = [byteOf (0xC5 + 16 * codeOfStackPair p)] ∧
    exec (Instr.push p) s =
      match push16 (s.getStackPair p) s with
      | .ok _ s1 => .next (s1.addCycles 16)
      | .error why s1 => .next (stopped (Instr.push p) s s1 why)) ∧
  (∀ (p : StackPair) (s : State),
    encode (Instr.pop p) = [byteOf (0xC1 + 16 * codeOfStackPair p)] ∧
    exec (Instr.pop p) s =
      match pop16 s with
      | .ok v s1 => .next ((s1.setStackPair p v).addCycles 12)
      | .error why s1 => .next (stopped (Instr.pop p) s s1 why)) ∧
  (∀ (s : State) (v : Word),
    (s.setStackPair .af v).a = v.extractLsb' 8 8 ∧
    (s.setStackPair .af v).f = v.extractLsb' 0 8 &&& 0xF0#8 ∧
    (s.setStackPair .af v).flag .zero = v.getLsbD 7 ∧
    (s.setStackPair .af v).flag .subtract = v.getLsbD 6 ∧
    (s.setStackPair .af v).flag .halfCarry = v.getLsbD 5 ∧
    (s.setStackPair .af v).flag .carry = v.getLsbD 4)

/-- 40_loads.md R246: where SP-1 and SP-2 are storage (two different locations), Push16 then Pop16 gives the
value back and restores SP; so PUSH rr then POP rr is the identity on the pair, for AF because the pushed F has
bits 3..0 zero. The spec marks R246 derived. -/
def Obligations.PopUndoesPush : Prop :=
  (∀ (v : Word) (s : State), s.storesWf →
    s.isStorage (s.sp - 1#16) = true → s.isStorage (s.sp - 2#16) = true →
    ∃ s1, push16 v s = .ok () s1 ∧ s1.sp = s.sp - 2#16 ∧
      pop16 s1 = .ok v { s1 with sp := s.sp }) ∧
  (∀ (p : StackPair) (s : State), s.storesWf → s.flagsLegal →
    s.isStorage (s.sp - 1#16) = true → s.isStorage (s.sp - 2#16) = true →
    ∃ s1 s2, exec (Instr.push p) s = .next s1 ∧ exec (Instr.pop p) s1 = .next s2 ∧
      s2 = { s1 with sp := s.sp, cycles := s.cycles + 28 } ∧ s2.getStackPair p = s.getStackPair p)

/-! ## 8-bit arithmetic and logic -/

/-- 41_alu8.md R270, R271, R273, R274: ADD and ADC with every source operand: the sum on unbounded integers,
A its low byte, and the four flags; Cy is read before it is written. -/
def Obligations.AddAdcComplete : Prop :=
  let added := fun (s1 t : State) (v : Byte) (ci : Nat) (cycles : Nat) =>
    t = { s1 with a := t.a, f := t.f, cycles := s1.cycles + cycles } ∧
    t.a = byteOf (s1.a.toNat + v.toNat + ci) ∧
    t.flag .zero = decide ((s1.a.toNat + v.toNat + ci) % 256 = 0) ∧
    t.flag .subtract = false ∧
    t.flag .halfCarry = decide (s1.a.toNat % 16 + v.toNat % 16 + ci > 15) ∧
    t.flag .carry = decide (s1.a.toNat + v.toNat + ci > 255)
  ∀ (op : AluOp) (s : State) (ci : Nat),
    (op = .add ∧ ci = 0) ∨ (op = .adc ∧ ci = if s.flag .carry then 1 else 0) →
    (∀ o : Operand, encode (Instr.aluOperand op o) = [byteOf (0x80 + 8 * codeOfAlu op + codeOfOperand o)] ∧
      (∀ v s1, readOperand o s = .ok v s1 →
        ∃ t, exec (Instr.aluOperand op o) s = .next t ∧ added s1 t v ci (if o = .memHl then 8 else 4)) ∧
      (∀ why s1, readOperand o s = .error why s1 →
        exec (Instr.aluOperand op o) s = .next (stopped (Instr.aluOperand op o) s s1 why))) ∧
    (∀ n : Byte, encode (Instr.aluD8 op n) = [byteOf (0xC6 + 8 * codeOfAlu op), n] ∧
      ∃ t, exec (Instr.aluD8 op n) s = .next t ∧ added s t n ci 8)

/-- 41_alu8.md R270, R272, R275, R276, R280: SUB, SBC and CP with every source operand: the difference on
unbounded integers, Cy and Hf 1 exactly when a borrow occurs; CP leaves A. -/
def Obligations.SubSbcCpComplete : Prop :=
  let subtracted := fun (op : AluOp) (s1 t : State) (v : Byte) (ci : Nat) (cycles : Nat) =>
    t = { s1 with a := t.a, f := t.f, cycles := s1.cycles + cycles } ∧
    t.a = (if op = .cp then s1.a else BitVec.ofInt 8 ((s1.a.toNat : Int) - v.toNat - ci)) ∧
    t.flag .zero = decide (((s1.a.toNat : Int) - v.toNat - ci) % 256 = 0) ∧
    t.flag .subtract = true ∧
    t.flag .halfCarry = decide (s1.a.toNat % 16 < v.toNat % 16 + ci) ∧
    t.flag .carry = decide (s1.a.toNat < v.toNat + ci)
  ∀ (op : AluOp) (s : State) (ci : Nat),
    ((op = .sub ∨ op = .cp) ∧ ci = 0) ∨ (op = .sbc ∧ ci = if s.flag .carry then 1 else 0) →
    (∀ o : Operand, encode (Instr.aluOperand op o) = [byteOf (0x80 + 8 * codeOfAlu op + codeOfOperand o)] ∧
      (∀ v s1, readOperand o s = .ok v s1 →
        ∃ t, exec (Instr.aluOperand op o) s = .next t ∧
          subtracted op s1 t v ci (if o = .memHl then 8 else 4)) ∧
      (∀ why s1, readOperand o s = .error why s1 →
        exec (Instr.aluOperand op o) s = .next (stopped (Instr.aluOperand op o) s s1 why))) ∧
    (∀ n : Byte, encode (Instr.aluD8 op n) = [byteOf (0xC6 + 8 * codeOfAlu op), n] ∧
      ∃ t, exec (Instr.aluD8 op n) s = .next t ∧ subtracted op s t n ci 8)

/-- 41_alu8.md R270, R277, R278, R279: AND, XOR and OR with every source operand, bit by bit; Hf is 1 for AND
only, N and Cy are 0. -/
def Obligations.LogicCompletes : Prop :=
  let combined := fun (op : AluOp) (s1 t : State) (v : Byte) (cycles : Nat) =>
    t = { s1 with a := t.a, f := t.f, cycles := s1.cycles + cycles } ∧
    (∀ k, t.a.getLsbD k =
      if op = .and then s1.a.getLsbD k && v.getLsbD k
      else if op = .xor then s1.a.getLsbD k != v.getLsbD k
      else s1.a.getLsbD k || v.getLsbD k) ∧
    t.flag .zero = decide (t.a = 0x00#8) ∧ t.flag .subtract = false ∧
    t.flag .halfCarry = decide (op = .and) ∧ t.flag .carry = false
  ∀ (op : AluOp) (s : State), op = .and ∨ op = .xor ∨ op = .or →
    (∀ o : Operand, encode (Instr.aluOperand op o) = [byteOf (0x80 + 8 * codeOfAlu op + codeOfOperand o)] ∧
      (∀ v s1, readOperand o s = .ok v s1 →
        ∃ t, exec (Instr.aluOperand op o) s = .next t ∧ combined op s1 t v (if o = .memHl then 8 else 4)) ∧
      (∀ why s1, readOperand o s = .error why s1 →
        exec (Instr.aluOperand op o) s = .next (stopped (Instr.aluOperand op o) s s1 why))) ∧
    (∀ n : Byte, encode (Instr.aluD8 op n) = [byteOf (0xC6 + 8 * codeOfAlu op), n] ∧
      ∃ t, exec (Instr.aluD8 op n) s = .next t ∧ combined op s t n 8)

/-- 41_alu8.md R281-R284: INC and DEC of a register and of (HL), modulo 256; Cy stays, and the flags are
written only if both accesses succeed. -/
def Obligations.IncDecComplete : Prop :=
  let stepped := fun (i : Instr) (delta : Byte) (n : Bool) (half : Byte → Bool) (o : Operand) =>
    ∀ s : State,
      (∀ why s1, readOperand o s = .error why s1 → exec i s = .next (stopped i s s1 why)) ∧
      (∀ v s1, readOperand o s = .ok v s1 →
        (∀ why s2, writeOperand o (v + delta) s1 = .error why s2 → exec i s = .next (stopped i s s2 why)) ∧
        (∀ s2, writeOperand o (v + delta) s1 = .ok () s2 →
          ∃ t, exec i s = .next t ∧
            t = { s2 with f := t.f, cycles := s2.cycles + if o = .memHl then 12 else 4 } ∧
            t.flag .zero = decide (v + delta = 0x00#8) ∧ t.flag .subtract = n ∧
            t.flag .halfCarry = half v ∧ t.flag .carry = s.flag .carry))
  ∀ o : Operand,
    encode (Instr.incOperand o) = [byteOf (0x04 + 8 * codeOfOperand o)] ∧
    stepped (Instr.incOperand o) 0x01#8 false (fun v => decide (v.toNat % 16 = 15)) o ∧
    encode (Instr.decOperand o) = [byteOf (0x05 + 8 * codeOfOperand o)] ∧
    stepped (Instr.decOperand o) 0xFF#8 true (fun v => decide (v.toNat % 16 = 0)) o

/-- 41_alu8.md R285-R288: DAA by the rule's pseudocode on unbounded integers, CPL, SCF and CCF; each completes
in every state and changes A (DAA and CPL), the flags and CYCLES only. -/
def Obligations.AdjustAndFlagOpsComplete : Prop :=
  ∀ s : State,
    (encode .daa = [0x27#8] ∧ ∃ t, exec .daa s = .next t ∧
      t = { s with a := t.a, f := t.f, cycles := s.cycles + 4 } ∧
      (∀ high low : Bool,
        (s.flag .subtract = false →
          high = (s.flag .carry || decide (s.a.toNat > 0x99)) →
          low = (s.flag .halfCarry || decide (s.a.toNat % 16 > 9)) →
          t.a = byteOf (s.a.toNat + (if high then 0x60 else 0) + (if low then 0x06 else 0)) ∧
          t.flag .carry = high) ∧
        (s.flag .subtract = true → high = s.flag .carry → low = s.flag .halfCarry →
          t.a = BitVec.ofInt 8 ((s.a.toNat : Int) - (if high then 0x60 else 0) - (if low then 0x06 else 0)) ∧
          t.flag .carry = s.flag .carry)) ∧
      t.flag .zero = decide (t.a = 0x00#8) ∧ t.flag .subtract = s.flag .subtract ∧
      t.flag .halfCarry = false) ∧
    (encode .cpl = [0x2F#8] ∧ ∃ t, exec .cpl s = .next t ∧
      t = { s with a := s.a ^^^ 0xFF#8, f := t.f, cycles := s.cycles + 4 } ∧
      t.flag .zero = s.flag .zero ∧ t.flag .subtract = true ∧ t.flag .halfCarry = true ∧
      t.flag .carry = s.flag .carry) ∧
    (encode .scf = [0x37#8] ∧ ∃ t, exec .scf s = .next t ∧
      t = { s with f := t.f, cycles := s.cycles + 4 } ∧
      t.flag .zero = s.flag .zero ∧ t.flag .subtract = false ∧ t.flag .halfCarry = false ∧
      t.flag .carry = true) ∧
    (encode .ccf = [0x3F#8] ∧ ∃ t, exec .ccf s = .next t ∧
      t = { s with f := t.f, cycles := s.cycles + 4 } ∧
      t.flag .zero = s.flag .zero ∧ t.flag .subtract = false ∧ t.flag .halfCarry = false ∧
      t.flag .carry = !s.flag .carry)

/-- 41_alu8.md R285 (corner cases): after an addition of two valid BCD bytes DAA gives their BCD sum mod 100
with Cy the hundreds carry; after a subtraction it gives the BCD difference mod 100, Cy unchanged. -/
def Obligations.DaaIsDecimal : Prop :=
  let bcd := fun n : Nat => byteOf (n / 10 * 16 + n % 10)
  ∀ (x y : Nat) (s : State), x < 100 → y < 100 → s.a = bcd x →
    (∃ s1 s2, exec (.addAD8 (bcd y)) s = .next s1 ∧ exec .daa s1 = .next s2 ∧
      s2.a = bcd ((x + y) % 100) ∧ s2.flag .carry = decide (100 ≤ x + y)) ∧
    (∃ s1 s2, exec (.subD8 (bcd y)) s = .next s1 ∧ exec .daa s1 = .next s2 ∧
      s2.a = bcd ((x + 100 - y) % 100) ∧ s2.flag .carry = s1.flag .carry ∧
      s2.flag .carry = decide (x < y))

/-! ## 16-bit arithmetic -/

/-- 42_alu16.md R310, R312, R313, R314: ADD HL,rr in both modes of ADD16_Z_MODE, INC rr and DEC rr modulo 65536
with no flag. -/
def Obligations.PairArithmeticCompletes : Prop :=
  (∀ (p : Pair) (s : State),
    encode (Instr.addHlPair p) = [byteOf (0x09 + 16 * codeOfPair p)] ∧
    ∃ t, exec (Instr.addHlPair p) s = .next t ∧
      t = { s with h := t.h, l := t.l, f := t.f, cycles := s.cycles + 8 } ∧
      t.hl = BitVec.ofNat 16 (s.hl.toNat + (s.getPair p).toNat) ∧
      t.flag .zero =
        (match s.cfg.add16Z with
        | .result => decide ((s.hl.toNat + (s.getPair p).toNat) % 65536 = 0)
        | .preserve => s.flag .zero) ∧
      t.flag .subtract = false ∧
      t.flag .halfCarry = decide (s.hl.toNat % 4096 + (s.getPair p).toNat % 4096 > 4095) ∧
      t.flag .carry = decide (s.hl.toNat + (s.getPair p).toNat > 65535)) ∧
  (∀ (p : Pair) (s : State),
    encode (Instr.incPair p) = [byteOf (0x03 + 16 * codeOfPair p)] ∧
    exec (Instr.incPair p) s =
      .next ((s.setPair p (BitVec.ofNat 16 ((s.getPair p).toNat + 1))).addCycles 8)) ∧
  (∀ (p : Pair) (s : State),
    encode (Instr.decPair p) = [byteOf (0x0B + 16 * codeOfPair p)] ∧
    exec (Instr.decPair p) s =
      .next ((s.setPair p (BitVec.ofNat 16 ((s.getPair p).toNat + 65535))).addCycles 8))

/-- 42_alu16.md R311, R315, R316: ADD SP,e8 and LD HL,SP+e8: the signed offset, and the flags of the unsigned
addition of the low bytes; LD HL,SP+e8 leaves SP. -/
def Obligations.SpOffsetCompletes : Prop :=
  ∀ (e : Byte) (s : State) (sum : Word),
    sum = BitVec.ofInt 16 ((s.sp.toNat : Int) + e.toInt) →
    let flags := fun t : State =>
      t.flag .zero = false ∧ t.flag .subtract = false ∧
      t.flag .halfCarry = decide (s.sp.toNat % 16 + e.toNat % 16 > 15) ∧
      t.flag .carry = decide (s.sp.toNat % 256 + e.toNat > 255)
    (encode (.addSpE8 e) = [0xE8#8, e] ∧ ∃ t, exec (.addSpE8 e) s = .next t ∧
      t = { s with sp := sum, f := t.f, cycles := s.cycles + 16 } ∧ flags t) ∧
    (encode (.ldHlSpE8 e) = [0xF8#8, e] ∧ ∃ t, exec (.ldHlSpE8 e) s = .next t ∧
      t = { s with h := t.h, l := t.l, f := t.f, cycles := s.cycles + 12 } ∧ t.hl = sum ∧ flags t)

/-! ## Rotates, shifts and bits -/

/-- 43_rotate_shift_bit.md R332-R335 (R347): the accumulator rotates, bit by bit, in both modes of
ACC_ROT_Z_MODE. -/
def Obligations.AccumulatorRotatesComplete : Prop :=
  let rotated := fun (i : Instr) (op : Byte) (bits : State → Nat → Bool) (out : State → Bool) =>
    encode i = [op] ∧ ∀ s : State, ∃ t, exec i s = .next t ∧
      t = { s with a := t.a, f := t.f, cycles := s.cycles + 4 } ∧
      (∀ k, k < 8 → t.a.getLsbD k = bits s k) ∧
      t.flag .zero = (match s.cfg.accRotZ with | .result => decide (t.a = 0x00#8) | .clear => false) ∧
      t.flag .subtract = false ∧ t.flag .halfCarry = false ∧ t.flag .carry = out s
  rotated .rlca 0x07#8 (fun s k => s.a.getLsbD ((k + 7) % 8)) (fun s => s.a.getLsbD 7) ∧
  rotated .rrca 0x0F#8 (fun s k => s.a.getLsbD ((k + 1) % 8)) (fun s => s.a.getLsbD 0) ∧
  rotated .rla 0x17#8 (fun s k => if k = 0 then s.flag .carry else s.a.getLsbD (k - 1))
    (fun s => s.a.getLsbD 7) ∧
  rotated .rra 0x1F#8 (fun s k => if k = 7 then s.flag .carry else s.a.getLsbD (k + 1))
    (fun s => s.a.getLsbD 0)

/-- 43_rotate_shift_bit.md R330, R331, R336-R343, R347: the eight CB rotates and shifts on every operand, bit
by bit; the flags are written only if the write does not stop. -/
def Obligations.CbRotatesComplete : Prop :=
  let bits := fun (op : RotOp) (v : Byte) (cy : Bool) (k : Nat) =>
    match op with
    | .rlc => v.getLsbD ((k + 7) % 8)
    | .rrc => v.getLsbD ((k + 1) % 8)
    | .rl => if k = 0 then cy else v.getLsbD (k - 1)
    | .rr => if k = 7 then cy else v.getLsbD (k + 1)
    | .sla => if k = 0 then false else v.getLsbD (k - 1)
    | .sra => if k = 7 then v.getLsbD 7 else v.getLsbD (k + 1)
    | .swap => v.getLsbD ((k + 4) % 8)
    | .srl => if k = 7 then false else v.getLsbD (k + 1)
  let out := fun (op : RotOp) (v : Byte) =>
    match op with
    | .rlc => v.getLsbD 7
    | .rrc => v.getLsbD 0
    | .rl => v.getLsbD 7
    | .rr => v.getLsbD 0
    | .sla => v.getLsbD 7
    | .sra => v.getLsbD 0
    | .swap => false
    | .srl => v.getLsbD 0
  ∀ (op : RotOp) (o : Operand) (s : State) (i : Instr), i = Instr.rotOperand op o →
    encode i = [0xCB#8, byteOf (8 * codeOfRot op + codeOfOperand o)] ∧
    (∀ why s1, readOperand o s = .error why s1 → exec i s = .next (stopped i s s1 why)) ∧
    (∀ v s1, readOperand o s = .ok v s1 →
      ∃ r : Byte, (∀ k, k < 8 → r.getLsbD k = bits op v (s.flag .carry) k) ∧
        (∀ why s2, writeOperand o r s1 = .error why s2 → exec i s = .next (stopped i s s2 why)) ∧
        (∀ s2, writeOperand o r s1 = .ok () s2 →
          ∃ t, exec i s = .next t ∧
            t = { s2 with f := t.f, cycles := s2.cycles + if o = .memHl then 16 else 8 } ∧
            t.flag .zero = decide (r = 0x00#8) ∧ t.flag .subtract = false ∧ t.flag .halfCarry = false ∧
            t.flag .carry = out op v))

/-- 43_rotate_shift_bit.md R330, R344, R345, R346: BIT tests bit b and writes nothing but flags; RES and SET
write the operand with that bit changed, even if it had the value already, and no flag. -/
def Obligations.BitResSetComplete : Prop :=
  ∀ (b : Octal) (o : Operand) (s : State),
    (encode (Instr.bit b o) = [0xCB#8, byteOf (0x40 + 8 * b.value + codeOfOperand o)] ∧
      (∀ why s1, readOperand o s = .error why s1 →
        exec (Instr.bit b o) s = .next (stopped (Instr.bit b o) s s1 why)) ∧
      (∀ v s1, readOperand o s = .ok v s1 →
        ∃ t, exec (Instr.bit b o) s = .next t ∧
          t = { s1 with f := t.f, cycles := s1.cycles + if o = .memHl then 12 else 8 } ∧
          t.flag .zero = !v.getLsbD b.value ∧ t.flag .subtract = false ∧ t.flag .halfCarry = true ∧
          t.flag .carry = s.flag .carry)) ∧
    (∀ (i : Instr) (x : Bool) (base : Nat),
      (i = Instr.res b o ∧ x = false ∧ base = 0x80) ∨ (i = Instr.set b o ∧ x = true ∧ base = 0xC0) →
      encode i = [0xCB#8, byteOf (base + 8 * b.value + codeOfOperand o)] ∧
      (∀ why s1, readOperand o s = .error why s1 → exec i s = .next (stopped i s s1 why)) ∧
      (∀ v s1, readOperand o s = .ok v s1 →
        ∃ r : Byte, (∀ k, k < 8 → r.getLsbD k = if k = b.value then x else v.getLsbD k) ∧
          (∀ why s2, writeOperand o r s1 = .error why s2 → exec i s = .next (stopped i s s2 why)) ∧
          (∀ s2, writeOperand o r s1 = .ok () s2 →
            exec i s = .next (s2.addCycles (if o = .memHl then 16 else 8)))))

/-! ## Control transfer -/

/-- 44_control.md R370-R375: the jumps, conditional or not, absolute, to HL and relative to the address after
the instruction; a jump not taken leaves PC there; no jump changes anything but PC and CYCLES. -/
def Obligations.JumpsComplete : Prop :=
  let holds := fun (s : State) (cc : Cond) =>
    match cc with
    | .nz => s.flag .zero = false
    | .z => s.flag .zero = true
    | .nc => s.flag .carry = false
    | .c => s.flag .carry = true
  let jumps := fun (s : State) (target : Word) (cycles : Nat) =>
    { s with pc := target, cycles := s.cycles + cycles }
  (∀ (lo hi : Byte) (s : State), encode (.jpA16 (hi ++ lo)) = [0xC3#8, lo, hi] ∧
    exec (.jpA16 (hi ++ lo)) s = .next (jumps s (hi ++ lo) 16)) ∧
  (∀ s : State, encode .jpHl = [0xE9#8] ∧ exec .jpHl s = .next (jumps s s.hl 4)) ∧
  (∀ (e : Byte) (s : State), encode (.jrE8 e) = [0x18#8, e] ∧
    exec (.jrE8 e) s = .next (jumps s (BitVec.ofInt 16 ((s.pc.toNat : Int) + e.toInt)) 12)) ∧
  (∀ (cc : Cond) (lo hi : Byte) (s : State),
    encode (Instr.jpCond cc (hi ++ lo)) = [byteOf (0xC2 + 8 * codeOfCond cc), lo, hi] ∧
    (holds s cc → exec (Instr.jpCond cc (hi ++ lo)) s = .next (jumps s (hi ++ lo) 16)) ∧
    (¬ holds s cc → exec (Instr.jpCond cc (hi ++ lo)) s = .next (jumps s s.pc 12))) ∧
  (∀ (cc : Cond) (e : Byte) (s : State),
    encode (Instr.jrCond cc e) = [byteOf (0x20 + 8 * codeOfCond cc), e] ∧
    (holds s cc →
      exec (Instr.jrCond cc e) s = .next (jumps s (BitVec.ofInt 16 ((s.pc.toNat : Int) + e.toInt)) 12)) ∧
    (¬ holds s cc → exec (Instr.jrCond cc e) s = .next (jumps s s.pc 8)))

/-- 44_control.md R370, R376, R377, R381: calls and restarts push PC (the address after the instruction), then
jump; if a push write stops, PC is not changed; a call not taken makes no stack access. -/
def Obligations.CallsComplete : Prop :=
  let holds := fun (s : State) (cc : Cond) =>
    match cc with
    | .nz => s.flag .zero = false
    | .z => s.flag .zero = true
    | .nc => s.flag .carry = false
    | .c => s.flag .carry = true
  let calls := fun (i : Instr) (s : State) (target : Word) (cycles : Nat) =>
    (∀ s1, push16 s.pc s = .ok () s1 →
      exec i s = .next { s1 with pc := target, cycles := s1.cycles + cycles }) ∧
    (∀ why s1, push16 s.pc s = .error why s1 →
      exec i s = .next (stopped i s s1 why) ∧ (stopped i s s1 why).pc = s.pc)
  (∀ (lo hi : Byte) (s : State), encode (.callA16 (hi ++ lo)) = [0xCD#8, lo, hi] ∧
    calls (.callA16 (hi ++ lo)) s (hi ++ lo) 24) ∧
  (∀ (cc : Cond) (lo hi : Byte) (s : State),
    encode (Instr.callCond cc (hi ++ lo)) = [byteOf (0xC4 + 8 * codeOfCond cc), lo, hi] ∧
    (holds s cc → calls (Instr.callCond cc (hi ++ lo)) s (hi ++ lo) 24) ∧
    (¬ holds s cc →
      exec (Instr.callCond cc (hi ++ lo)) s = .next { s with cycles := s.cycles + 12 })) ∧
  (∀ (n : Octal) (s : State), encode (Instr.rst n) = [byteOf (0xC7 + 8 * n.value)] ∧
    calls (Instr.rst n) s (BitVec.ofNat 16 (8 * n.value)) 16)

/-- 44_control.md R370, R378, R379, R380: returns pop PC; RETI then sets IME, and does not if a read stops; a
return not taken reads no memory. -/
def Obligations.ReturnsComplete : Prop :=
  let holds := fun (s : State) (cc : Cond) =>
    match cc with
    | .nz => s.flag .zero = false
    | .z => s.flag .zero = true
    | .nc => s.flag .carry = false
    | .c => s.flag .carry = true
  let returns := fun (i : Instr) (s : State) (cycles : Nat) (enable : Bool) =>
    (∀ v s1, pop16 s = .ok v s1 →
      exec i s = .next { s1 with pc := v, ime := s1.ime || enable, cycles := s1.cycles + cycles }) ∧
    (∀ why s1, pop16 s = .error why s1 →
      exec i s = .next (stopped i s s1 why) ∧ (stopped i s s1 why).ime = s.ime)
  (∀ s : State, encode .ret = [0xC9#8] ∧ returns .ret s 16 false) ∧
  (∀ s : State, encode .reti = [0xD9#8] ∧ returns .reti s 16 true) ∧
  (∀ (cc : Cond) (s : State), encode (Instr.retCond cc) = [byteOf (0xC0 + 8 * codeOfCond cc)] ∧
    (holds s cc → returns (Instr.retCond cc) s 20 false) ∧
    (¬ holds s cc → exec (Instr.retCond cc) s = .next { s with cycles := s.cycles + 8 }))

/-- 44_control.md R376, R378 with 40_loads.md R246: where SP-1 and SP-2 are storage, a RET that finds the stack
as a CALL left it returns to the instruction after the CALL, with SP restored. -/
def Obligations.ReturnUndoesCall : Prop :=
  ∀ (addr : Word) (s : State), s.storesWf →
    s.isStorage (s.sp - 1#16) = true → s.isStorage (s.sp - 2#16) = true →
    ∃ s1 s2, exec (.callA16 addr) s = .next s1 ∧ s1.pc = addr ∧ s1.sp = s.sp - 2#16 ∧
      exec .ret s1 = .next s2 ∧ s2 = { s1 with pc := s.pc, sp := s.sp, cycles := s.cycles + 40 }

/-! ## System -/

/-- 45_system.md R400-R404, R406 (60_exceptions.md R437): NOP, HALT, STOP (its second byte ignored), DI, EI and
the eleven unassigned bytes in both modes, with their encodings; each completes in every state. -/
def Obligations.SystemCompletes : Prop :=
  ∀ s : State,
    (encode .nop = [0x00#8] ∧ exec .nop s = .next { s with cycles := s.cycles + 4 }) ∧
    (encode .halt = [0x76#8] ∧ exec .halt s = .next { s with run := .halted, cycles := s.cycles + 4 }) ∧
    (∀ n : Byte, encode (.stop n) = [0x10#8, n] ∧
      exec (.stop n) s = .next { s with run := .stopped, cycles := s.cycles + 4 }) ∧
    (encode .di = [0xF3#8] ∧ exec .di s = .next { s with ime := false, cycles := s.cycles + 4 }) ∧
    (encode .ei = [0xFB#8] ∧ exec .ei s = .next { s with ime := true, cycles := s.cycles + 4 }) ∧
    (∀ row ∈ ([(.illegalD3, 0xD3#8), (.illegalDB, 0xDB#8), (.illegalDD, 0xDD#8), (.illegalE3, 0xE3#8),
        (.illegalE4, 0xE4#8), (.illegalEB, 0xEB#8), (.illegalEC, 0xEC#8), (.illegalED, 0xED#8),
        (.illegalF4, 0xF4#8), (.illegalFC, 0xFC#8), (.illegalFD, 0xFD#8)] : List (Instr × Byte)),
      encode row.1 = [row.2] ∧
      (s.cfg.illegalOpcode = .nop → exec row.1 s = .next { s with cycles := s.cycles + 4 }) ∧
      (s.cfg.illegalOpcode = .lock →
        exec row.1 s = .next { s with mark := .locked, cycles := s.cycles + 4 }))

/-- 45_system.md R405: the prefix runs the extended instruction its second byte names: a running step on
0xCB, cb is exec of decode_extended(0xCB00 | cb), the model's PREFIX_CB row (log entry 11) has exactly that
effect for every cb, and it takes the cycles of the CB row (70_reset_and_hazards.md R487). -/
def Obligations.PrefixRunsExtended : Prop :=
  ∀ (cb : Byte) (s : State),
    decode [0xCB#8, cb] = .ok (decodeExtended cb, []) ∧
    encode (decodeExtended cb) = [0xCB#8, cb] ∧
    exec (.prefixCb cb) s = exec (decodeExtended cb) s ∧
    (∀ s1 s2, s.isRunning = true → fetch8 s = .ok 0xCB#8 s1 → fetch8 s1 = .ok cb s2 →
      step s = exec (decodeExtended cb) s2) ∧
    (s.readStop s.hl = none → (∀ v, s.writeStop s.hl v = none) →
      ∃ t, exec (.prefixCb cb) s = .next t ∧ t.fault = s.fault ∧ t.mark = s.mark ∧
        t.cycles = s.cycles + (if cb.toNat % 8 ≠ 6 then 8 else if cb.toNat / 64 = 1 then 12 else 16))
end

