-- ==== Sys2Proof/Laws/Memory.lean ====
section
/-! SUPPORT. The laws of one store: read after write, and that every operation keeps the canonical form and
the array's bound. -/

namespace Sys2Proof.Machine

theorem Memory.read_eq_unlisted_of_startsAbove {k i : Nat} {m : Memory} (hm : Memory.wf m = true)
    (hk : Memory.startsAbove k m = true) (hi : i ≤ k) : Memory.read m i = Memory.unlisted := by
  induction m generalizing k with
  | nil => rfl
  | cons cell m ih =>
    obtain ⟨j, w⟩ := cell
    simp only [Memory.startsAbove, Memory.wf, Bool.and_eq_true, decide_eq_true_eq] at hk hm
    have hne : j ≠ i := by omega
    simp only [Memory.read, hne, if_false]
    exact ih hm.2 hm.1.2 (by omega)

theorem Memory.read_write_same {m : Memory} (hm : Memory.wf m = true) (i : Nat) (v : Byte) :
    Memory.read (Memory.write m i v) i = v := by
  induction m with
  | nil =>
    simp only [Memory.write]
    split <;> simp_all [Memory.read]
  | cons cell m ih =>
    obtain ⟨j, w⟩ := cell
    simp only [Memory.wf, Bool.and_eq_true, decide_eq_true_eq] at hm
    simp only [Memory.write]
    split
    · rename_i hlt
      have hne : j ≠ i := by omega
      simp only [Memory.read, hne, if_false]
      exact ih hm.2
    · split
      · rename_i heq
        subst heq
        split
        · rename_i hv
          rw [hv]
          exact Memory.read_eq_unlisted_of_startsAbove hm.2 hm.1.2 (Nat.le_refl _)
        · simp [Memory.read]
      · rename_i hlt hne
        split
        · rename_i hv
          simp only [Memory.read, hne, if_false, hv]
          exact Memory.read_eq_unlisted_of_startsAbove hm.2 hm.1.2 (by omega)
        · simp [Memory.read]

theorem Memory.read_write_other (m : Memory) {i j : Nat} (h : j ≠ i) (v : Byte) :
    Memory.read (Memory.write m i v) j = Memory.read m j := by
  induction m with
  | nil =>
    simp only [Memory.write]
    split <;> simp [Memory.read, h.symm]
  | cons cell m ih =>
    obtain ⟨k, w⟩ := cell
    simp only [Memory.write]
    split
    · simp only [Memory.read, ih]
    · split
      · rename_i heq
        subst heq
        split <;> simp [Memory.read, h.symm]
      · split <;> simp [Memory.read, h.symm]

theorem Memory.startsAbove_write {k i : Nat} {m : Memory} (hk : Memory.startsAbove k m = true) (hi : k < i)
    (hm : Memory.wf m = true) (v : Byte) : Memory.startsAbove k (Memory.write m i v) = true := by
  cases m with
  | nil =>
    simp only [Memory.write]
    split <;> simp [Memory.startsAbove, hi]
  | cons cell m =>
    obtain ⟨j, w⟩ := cell
    simp only [Memory.startsAbove, Memory.wf, Bool.and_eq_true, decide_eq_true_eq] at hk hm
    simp only [Memory.write]
    split
    · simp [Memory.startsAbove, hk]
    · split
      · split
        · cases m with
          | nil => rfl
          | cons cell' m =>
            obtain ⟨j', w'⟩ := cell'
            simp only [Memory.startsAbove, decide_eq_true_eq] at hm ⊢
            omega
        · simp [Memory.startsAbove, hi]
      · split <;> simp [Memory.startsAbove, hi, hk]

theorem Memory.wf_write {m : Memory} (hm : Memory.wf m = true) (i : Nat) (v : Byte) :
    Memory.wf (Memory.write m i v) = true := by
  induction m with
  | nil =>
    simp only [Memory.write]
    split <;> simp_all [Memory.wf, Memory.startsAbove]
  | cons cell m ih =>
    obtain ⟨j, w⟩ := cell
    have hm' := hm
    simp only [Memory.wf, Bool.and_eq_true, decide_eq_true_eq] at hm
    simp only [Memory.write]
    split
    · rename_i hlt
      simp only [Memory.wf, Bool.and_eq_true, decide_eq_true_eq]
      exact ⟨⟨hm.1.1, Memory.startsAbove_write hm.1.2 hlt hm.2 v⟩, ih hm.2⟩
    · split
      · rename_i heq
        subst heq
        split
        · exact hm.2
        · rename_i hv
          simp only [Memory.wf, Bool.and_eq_true, decide_eq_true_eq]
          exact ⟨⟨hv, hm.1.2⟩, hm.2⟩
      · split
        · exact hm'
        · rename_i h1 h2 hv
          simp only [Memory.wf, Bool.and_eq_true, decide_eq_true_eq, Memory.startsAbove]
          exact ⟨⟨hv, by omega⟩, hm⟩

theorem Memory.within_write {n i : Nat} {m : Memory} (hm : Memory.within n m = true) (hi : i < n) (v : Byte) :
    Memory.within n (Memory.write m i v) = true := by
  induction m with
  | nil =>
    simp only [Memory.write]
    split <;> simp [Memory.within, hi]
  | cons cell m ih =>
    obtain ⟨j, w⟩ := cell
    simp only [Memory.within, List.all_cons, Bool.and_eq_true, decide_eq_true_eq] at hm ih
    simp only [Memory.write]
    split
    · simp only [Memory.within, List.all_cons, Bool.and_eq_true, decide_eq_true_eq]
      exact ⟨hm.1, ih hm.2⟩
    · split
      · split
        · exact hm.2
        · simp only [Memory.within, List.all_cons, Bool.and_eq_true, decide_eq_true_eq]
          exact ⟨hi, hm.2⟩
      · split
        · simp only [Memory.within, List.all_cons, Bool.and_eq_true, decide_eq_true_eq]
          exact hm
        · simp only [Memory.within, List.all_cons, Bool.and_eq_true, decide_eq_true_eq]
          exact ⟨hi, hm⟩

theorem Memory.startsAbove_ofBytesFrom (k i : Nat) (h : k < i) (vs : List Byte) :
    Memory.startsAbove k (Memory.ofBytesFrom i vs) = true := by
  induction vs generalizing i with
  | nil => rfl
  | cons v vs ih =>
    simp only [Memory.ofBytesFrom]
    split
    · exact ih (i + 1) (by omega)
    · simp [Memory.startsAbove, h]

theorem Memory.wf_ofBytesFrom (i : Nat) (vs : List Byte) : Memory.wf (Memory.ofBytesFrom i vs) = true := by
  induction vs generalizing i with
  | nil => rfl
  | cons v vs ih =>
    simp only [Memory.ofBytesFrom]
    split
    · exact ih (i + 1)
    · rename_i hv
      simp only [Memory.wf, Bool.and_eq_true, decide_eq_true_eq]
      exact ⟨⟨hv, Memory.startsAbove_ofBytesFrom i (i + 1) (by omega) vs⟩, ih (i + 1)⟩

theorem Memory.within_ofBytesFrom (n i : Nat) (vs : List Byte) (h : i + vs.length ≤ n) :
    Memory.within n (Memory.ofBytesFrom i vs) = true := by
  induction vs generalizing i with
  | nil => rfl
  | cons v vs ih =>
    simp only [List.length_cons] at h
    simp only [Memory.ofBytesFrom]
    split
    · exact ih (i + 1) (by omega)
    · have hrest := ih (i + 1) (by omega)
      simp only [Memory.within, List.all_cons, Bool.and_eq_true, decide_eq_true_eq]
      exact ⟨by omega, hrest⟩

theorem Memory.read_ofBytesFrom (i k : Nat) (vs : List Byte) :
    Memory.read (Memory.ofBytesFrom i vs) (i + k) = vs.getD k Memory.unlisted := by
  induction vs generalizing i k with
  | nil => rfl
  | cons v vs ih =>
    simp only [Memory.ofBytesFrom]
    cases k with
    | zero =>
      split
      · rename_i hv
        rw [Memory.read_eq_unlisted_of_startsAbove (k := i) (Memory.wf_ofBytesFrom (i + 1) vs)
          (Memory.startsAbove_ofBytesFrom i (i + 1) (by omega) vs) (by omega)]
        simp [hv]
      · simp [Memory.read]
    | succ k =>
      have key : i + (k + 1) = i + 1 + k := by omega
      split
      · rw [key, ih]
        rfl
      · simp only [Memory.read]
        rw [if_neg (by omega), key, ih]
        rfl

theorem Memory.wf_ofBytes (n : Nat) (vs : List Byte) : Memory.wf (Memory.ofBytes n vs) = true :=
  Memory.wf_ofBytesFrom 0 _

theorem Memory.within_ofBytes (n : Nat) (vs : List Byte) : Memory.within n (Memory.ofBytes n vs) = true :=
  Memory.within_ofBytesFrom n 0 _ (by simp [List.length_take])

end Sys2Proof.Machine
end

