-- ==== Sys2Proof/Laws/State.lean ====
section
/-! SUPPORT. One lemma per field per update of State, true by unfolding the update once, so that no later
proof unfolds a record update. -/

namespace Sys2Proof.Machine

variable (s : State)

@[simp] theorem State.setReg_f (r : Reg) (v : Byte) : (s.setReg r v).f = s.f := by cases r <;> rfl
@[simp] theorem State.setReg_sp (r : Reg) (v : Byte) : (s.setReg r v).sp = s.sp := by cases r <;> rfl
@[simp] theorem State.setReg_pc (r : Reg) (v : Byte) : (s.setReg r v).pc = s.pc := by cases r <;> rfl
@[simp] theorem State.setReg_ime (r : Reg) (v : Byte) : (s.setReg r v).ime = s.ime := by cases r <;> rfl
@[simp] theorem State.setReg_run (r : Reg) (v : Byte) : (s.setReg r v).run = s.run := by cases r <;> rfl
@[simp] theorem State.setReg_fault (r : Reg) (v : Byte) : (s.setReg r v).fault = s.fault := by cases r <;> rfl
@[simp] theorem State.setReg_mark (r : Reg) (v : Byte) : (s.setReg r v).mark = s.mark := by cases r <;> rfl
@[simp] theorem State.setReg_bootOff (r : Reg) (v : Byte) : (s.setReg r v).bootOff = s.bootOff := by cases r <;> rfl
@[simp] theorem State.setReg_cycles (r : Reg) (v : Byte) : (s.setReg r v).cycles = s.cycles := by cases r <;> rfl
@[simp] theorem State.setReg_wram (r : Reg) (v : Byte) : (s.setReg r v).wram = s.wram := by cases r <;> rfl
@[simp] theorem State.setReg_vram (r : Reg) (v : Byte) : (s.setReg r v).vram = s.vram := by cases r <;> rfl
@[simp] theorem State.setReg_oam (r : Reg) (v : Byte) : (s.setReg r v).oam = s.oam := by cases r <;> rfl
@[simp] theorem State.setReg_cram (r : Reg) (v : Byte) : (s.setReg r v).cram = s.cram := by cases r <;> rfl
@[simp] theorem State.setReg_cram2 (r : Reg) (v : Byte) : (s.setReg r v).cram2 = s.cram2 := by cases r <;> rfl
@[simp] theorem State.setReg_mapper (r : Reg) (v : Byte) : (s.setReg r v).mapper = s.mapper := by cases r <;> rfl
@[simp] theorem State.setReg_rom (r : Reg) (v : Byte) : (s.setReg r v).rom = s.rom := by cases r <;> rfl
@[simp] theorem State.setReg_romSize (r : Reg) (v : Byte) : (s.setReg r v).romSize = s.romSize := by cases r <;> rfl
@[simp] theorem State.setReg_cramSize (r : Reg) (v : Byte) : (s.setReg r v).cramSize = s.cramSize := by cases r <;> rfl
@[simp] theorem State.setReg_boot (r : Reg) (v : Byte) : (s.setReg r v).boot = s.boot := by cases r <;> rfl
@[simp] theorem State.setReg_cfg (r : Reg) (v : Byte) : (s.setReg r v).cfg = s.cfg := by cases r <;> rfl
@[simp] theorem State.setReg_ioAnswers (r : Reg) (v : Byte) : (s.setReg r v).ioAnswers = s.ioAnswers := by cases r <;> rfl
@[simp] theorem State.setReg_ioLog (r : Reg) (v : Byte) : (s.setReg r v).ioLog = s.ioLog := by cases r <;> rfl

@[simp] theorem State.setF_a (v : Byte) : (s.setF v).a = s.a := rfl
@[simp] theorem State.setF_b (v : Byte) : (s.setF v).b = s.b := rfl
@[simp] theorem State.setF_c (v : Byte) : (s.setF v).c = s.c := rfl
@[simp] theorem State.setF_d (v : Byte) : (s.setF v).d = s.d := rfl
@[simp] theorem State.setF_e (v : Byte) : (s.setF v).e = s.e := rfl
@[simp] theorem State.setF_f (v : Byte) : (s.setF v).f = v &&& 0xF0#8 := rfl
@[simp] theorem State.setF_h (v : Byte) : (s.setF v).h = s.h := rfl
@[simp] theorem State.setF_l (v : Byte) : (s.setF v).l = s.l := rfl
@[simp] theorem State.setF_sp (v : Byte) : (s.setF v).sp = s.sp := rfl
@[simp] theorem State.setF_pc (v : Byte) : (s.setF v).pc = s.pc := rfl
@[simp] theorem State.setF_ime (v : Byte) : (s.setF v).ime = s.ime := rfl
@[simp] theorem State.setF_run (v : Byte) : (s.setF v).run = s.run := rfl
@[simp] theorem State.setF_fault (v : Byte) : (s.setF v).fault = s.fault := rfl
@[simp] theorem State.setF_mark (v : Byte) : (s.setF v).mark = s.mark := rfl
@[simp] theorem State.setF_bootOff (v : Byte) : (s.setF v).bootOff = s.bootOff := rfl
@[simp] theorem State.setF_cycles (v : Byte) : (s.setF v).cycles = s.cycles := rfl
@[simp] theorem State.setF_wram (v : Byte) : (s.setF v).wram = s.wram := rfl
@[simp] theorem State.setF_vram (v : Byte) : (s.setF v).vram = s.vram := rfl
@[simp] theorem State.setF_oam (v : Byte) : (s.setF v).oam = s.oam := rfl
@[simp] theorem State.setF_cram (v : Byte) : (s.setF v).cram = s.cram := rfl
@[simp] theorem State.setF_cram2 (v : Byte) : (s.setF v).cram2 = s.cram2 := rfl
@[simp] theorem State.setF_mapper (v : Byte) : (s.setF v).mapper = s.mapper := rfl
@[simp] theorem State.setF_rom (v : Byte) : (s.setF v).rom = s.rom := rfl
@[simp] theorem State.setF_romSize (v : Byte) : (s.setF v).romSize = s.romSize := rfl
@[simp] theorem State.setF_cramSize (v : Byte) : (s.setF v).cramSize = s.cramSize := rfl
@[simp] theorem State.setF_boot (v : Byte) : (s.setF v).boot = s.boot := rfl
@[simp] theorem State.setF_cfg (v : Byte) : (s.setF v).cfg = s.cfg := rfl
@[simp] theorem State.setF_ioAnswers (v : Byte) : (s.setF v).ioAnswers = s.ioAnswers := rfl
@[simp] theorem State.setF_ioLog (v : Byte) : (s.setF v).ioLog = s.ioLog := rfl

@[simp] theorem State.setFlags_a (z n h c : Bool) : (s.setFlags z n h c).a = s.a := rfl
@[simp] theorem State.setFlags_b (z n h c : Bool) : (s.setFlags z n h c).b = s.b := rfl
@[simp] theorem State.setFlags_c (z n h c : Bool) : (s.setFlags z n h c).c = s.c := rfl
@[simp] theorem State.setFlags_d (z n h c : Bool) : (s.setFlags z n h c).d = s.d := rfl
@[simp] theorem State.setFlags_e (z n h c : Bool) : (s.setFlags z n h c).e = s.e := rfl
@[simp] theorem State.setFlags_f (z n h c : Bool) : (s.setFlags z n h c).f = packFlags z n h c &&& 0xF0#8 := rfl
@[simp] theorem State.setFlags_h (z n h c : Bool) : (s.setFlags z n h c).h = s.h := rfl
@[simp] theorem State.setFlags_l (z n h c : Bool) : (s.setFlags z n h c).l = s.l := rfl
@[simp] theorem State.setFlags_sp (z n h c : Bool) : (s.setFlags z n h c).sp = s.sp := rfl
@[simp] theorem State.setFlags_pc (z n h c : Bool) : (s.setFlags z n h c).pc = s.pc := rfl
@[simp] theorem State.setFlags_ime (z n h c : Bool) : (s.setFlags z n h c).ime = s.ime := rfl
@[simp] theorem State.setFlags_run (z n h c : Bool) : (s.setFlags z n h c).run = s.run := rfl
@[simp] theorem State.setFlags_fault (z n h c : Bool) : (s.setFlags z n h c).fault = s.fault := rfl
@[simp] theorem State.setFlags_mark (z n h c : Bool) : (s.setFlags z n h c).mark = s.mark := rfl
@[simp] theorem State.setFlags_bootOff (z n h c : Bool) : (s.setFlags z n h c).bootOff = s.bootOff := rfl
@[simp] theorem State.setFlags_cycles (z n h c : Bool) : (s.setFlags z n h c).cycles = s.cycles := rfl
@[simp] theorem State.setFlags_wram (z n h c : Bool) : (s.setFlags z n h c).wram = s.wram := rfl
@[simp] theorem State.setFlags_vram (z n h c : Bool) : (s.setFlags z n h c).vram = s.vram := rfl
@[simp] theorem State.setFlags_oam (z n h c : Bool) : (s.setFlags z n h c).oam = s.oam := rfl
@[simp] theorem State.setFlags_cram (z n h c : Bool) : (s.setFlags z n h c).cram = s.cram := rfl
@[simp] theorem State.setFlags_cram2 (z n h c : Bool) : (s.setFlags z n h c).cram2 = s.cram2 := rfl
@[simp] theorem State.setFlags_mapper (z n h c : Bool) : (s.setFlags z n h c).mapper = s.mapper := rfl
@[simp] theorem State.setFlags_rom (z n h c : Bool) : (s.setFlags z n h c).rom = s.rom := rfl
@[simp] theorem State.setFlags_romSize (z n h c : Bool) : (s.setFlags z n h c).romSize = s.romSize := rfl
@[simp] theorem State.setFlags_cramSize (z n h c : Bool) : (s.setFlags z n h c).cramSize = s.cramSize := rfl
@[simp] theorem State.setFlags_boot (z n h c : Bool) : (s.setFlags z n h c).boot = s.boot := rfl
@[simp] theorem State.setFlags_cfg (z n h c : Bool) : (s.setFlags z n h c).cfg = s.cfg := rfl
@[simp] theorem State.setFlags_ioAnswers (z n h c : Bool) : (s.setFlags z n h c).ioAnswers = s.ioAnswers := rfl
@[simp] theorem State.setFlags_ioLog (z n h c : Bool) : (s.setFlags z n h c).ioLog = s.ioLog := rfl

@[simp] theorem State.setFlag_a (x : Flag) (v : Bool) : (s.setFlag x v).a = s.a := rfl
@[simp] theorem State.setFlag_b (x : Flag) (v : Bool) : (s.setFlag x v).b = s.b := rfl
@[simp] theorem State.setFlag_c (x : Flag) (v : Bool) : (s.setFlag x v).c = s.c := rfl
@[simp] theorem State.setFlag_d (x : Flag) (v : Bool) : (s.setFlag x v).d = s.d := rfl
@[simp] theorem State.setFlag_e (x : Flag) (v : Bool) : (s.setFlag x v).e = s.e := rfl
@[simp] theorem State.setFlag_h (x : Flag) (v : Bool) : (s.setFlag x v).h = s.h := rfl
@[simp] theorem State.setFlag_l (x : Flag) (v : Bool) : (s.setFlag x v).l = s.l := rfl
@[simp] theorem State.setFlag_sp (x : Flag) (v : Bool) : (s.setFlag x v).sp = s.sp := rfl
@[simp] theorem State.setFlag_pc (x : Flag) (v : Bool) : (s.setFlag x v).pc = s.pc := rfl
@[simp] theorem State.setFlag_ime (x : Flag) (v : Bool) : (s.setFlag x v).ime = s.ime := rfl
@[simp] theorem State.setFlag_run (x : Flag) (v : Bool) : (s.setFlag x v).run = s.run := rfl
@[simp] theorem State.setFlag_fault (x : Flag) (v : Bool) : (s.setFlag x v).fault = s.fault := rfl
@[simp] theorem State.setFlag_mark (x : Flag) (v : Bool) : (s.setFlag x v).mark = s.mark := rfl
@[simp] theorem State.setFlag_bootOff (x : Flag) (v : Bool) : (s.setFlag x v).bootOff = s.bootOff := rfl
@[simp] theorem State.setFlag_cycles (x : Flag) (v : Bool) : (s.setFlag x v).cycles = s.cycles := rfl
@[simp] theorem State.setFlag_wram (x : Flag) (v : Bool) : (s.setFlag x v).wram = s.wram := rfl
@[simp] theorem State.setFlag_vram (x : Flag) (v : Bool) : (s.setFlag x v).vram = s.vram := rfl
@[simp] theorem State.setFlag_oam (x : Flag) (v : Bool) : (s.setFlag x v).oam = s.oam := rfl
@[simp] theorem State.setFlag_cram (x : Flag) (v : Bool) : (s.setFlag x v).cram = s.cram := rfl
@[simp] theorem State.setFlag_cram2 (x : Flag) (v : Bool) : (s.setFlag x v).cram2 = s.cram2 := rfl
@[simp] theorem State.setFlag_mapper (x : Flag) (v : Bool) : (s.setFlag x v).mapper = s.mapper := rfl
@[simp] theorem State.setFlag_rom (x : Flag) (v : Bool) : (s.setFlag x v).rom = s.rom := rfl
@[simp] theorem State.setFlag_romSize (x : Flag) (v : Bool) : (s.setFlag x v).romSize = s.romSize := rfl
@[simp] theorem State.setFlag_cramSize (x : Flag) (v : Bool) : (s.setFlag x v).cramSize = s.cramSize := rfl
@[simp] theorem State.setFlag_boot (x : Flag) (v : Bool) : (s.setFlag x v).boot = s.boot := rfl
@[simp] theorem State.setFlag_cfg (x : Flag) (v : Bool) : (s.setFlag x v).cfg = s.cfg := rfl
@[simp] theorem State.setFlag_ioAnswers (x : Flag) (v : Bool) : (s.setFlag x v).ioAnswers = s.ioAnswers := rfl
@[simp] theorem State.setFlag_ioLog (x : Flag) (v : Bool) : (s.setFlag x v).ioLog = s.ioLog := rfl

@[simp] theorem State.setBc_a (v : Word) : (s.setBc v).a = s.a := rfl
@[simp] theorem State.setBc_b (v : Word) : (s.setBc v).b = highByte v := rfl
@[simp] theorem State.setBc_c (v : Word) : (s.setBc v).c = lowByte v := rfl
@[simp] theorem State.setBc_d (v : Word) : (s.setBc v).d = s.d := rfl
@[simp] theorem State.setBc_e (v : Word) : (s.setBc v).e = s.e := rfl
@[simp] theorem State.setBc_f (v : Word) : (s.setBc v).f = s.f := rfl
@[simp] theorem State.setBc_h (v : Word) : (s.setBc v).h = s.h := rfl
@[simp] theorem State.setBc_l (v : Word) : (s.setBc v).l = s.l := rfl
@[simp] theorem State.setBc_sp (v : Word) : (s.setBc v).sp = s.sp := rfl
@[simp] theorem State.setBc_pc (v : Word) : (s.setBc v).pc = s.pc := rfl
@[simp] theorem State.setBc_ime (v : Word) : (s.setBc v).ime = s.ime := rfl
@[simp] theorem State.setBc_run (v : Word) : (s.setBc v).run = s.run := rfl
@[simp] theorem State.setBc_fault (v : Word) : (s.setBc v).fault = s.fault := rfl
@[simp] theorem State.setBc_mark (v : Word) : (s.setBc v).mark = s.mark := rfl
@[simp] theorem State.setBc_bootOff (v : Word) : (s.setBc v).bootOff = s.bootOff := rfl
@[simp] theorem State.setBc_cycles (v : Word) : (s.setBc v).cycles = s.cycles := rfl
@[simp] theorem State.setBc_wram (v : Word) : (s.setBc v).wram = s.wram := rfl
@[simp] theorem State.setBc_vram (v : Word) : (s.setBc v).vram = s.vram := rfl
@[simp] theorem State.setBc_oam (v : Word) : (s.setBc v).oam = s.oam := rfl
@[simp] theorem State.setBc_cram (v : Word) : (s.setBc v).cram = s.cram := rfl
@[simp] theorem State.setBc_cram2 (v : Word) : (s.setBc v).cram2 = s.cram2 := rfl
@[simp] theorem State.setBc_mapper (v : Word) : (s.setBc v).mapper = s.mapper := rfl
@[simp] theorem State.setBc_rom (v : Word) : (s.setBc v).rom = s.rom := rfl
@[simp] theorem State.setBc_romSize (v : Word) : (s.setBc v).romSize = s.romSize := rfl
@[simp] theorem State.setBc_cramSize (v : Word) : (s.setBc v).cramSize = s.cramSize := rfl
@[simp] theorem State.setBc_boot (v : Word) : (s.setBc v).boot = s.boot := rfl
@[simp] theorem State.setBc_cfg (v : Word) : (s.setBc v).cfg = s.cfg := rfl
@[simp] theorem State.setBc_ioAnswers (v : Word) : (s.setBc v).ioAnswers = s.ioAnswers := rfl
@[simp] theorem State.setBc_ioLog (v : Word) : (s.setBc v).ioLog = s.ioLog := rfl

@[simp] theorem State.setDe_a (v : Word) : (s.setDe v).a = s.a := rfl
@[simp] theorem State.setDe_b (v : Word) : (s.setDe v).b = s.b := rfl
@[simp] theorem State.setDe_c (v : Word) : (s.setDe v).c = s.c := rfl
@[simp] theorem State.setDe_d (v : Word) : (s.setDe v).d = highByte v := rfl
@[simp] theorem State.setDe_e (v : Word) : (s.setDe v).e = lowByte v := rfl
@[simp] theorem State.setDe_f (v : Word) : (s.setDe v).f = s.f := rfl
@[simp] theorem State.setDe_h (v : Word) : (s.setDe v).h = s.h := rfl
@[simp] theorem State.setDe_l (v : Word) : (s.setDe v).l = s.l := rfl
@[simp] theorem State.setDe_sp (v : Word) : (s.setDe v).sp = s.sp := rfl
@[simp] theorem State.setDe_pc (v : Word) : (s.setDe v).pc = s.pc := rfl
@[simp] theorem State.setDe_ime (v : Word) : (s.setDe v).ime = s.ime := rfl
@[simp] theorem State.setDe_run (v : Word) : (s.setDe v).run = s.run := rfl
@[simp] theorem State.setDe_fault (v : Word) : (s.setDe v).fault = s.fault := rfl
@[simp] theorem State.setDe_mark (v : Word) : (s.setDe v).mark = s.mark := rfl
@[simp] theorem State.setDe_bootOff (v : Word) : (s.setDe v).bootOff = s.bootOff := rfl
@[simp] theorem State.setDe_cycles (v : Word) : (s.setDe v).cycles = s.cycles := rfl
@[simp] theorem State.setDe_wram (v : Word) : (s.setDe v).wram = s.wram := rfl
@[simp] theorem State.setDe_vram (v : Word) : (s.setDe v).vram = s.vram := rfl
@[simp] theorem State.setDe_oam (v : Word) : (s.setDe v).oam = s.oam := rfl
@[simp] theorem State.setDe_cram (v : Word) : (s.setDe v).cram = s.cram := rfl
@[simp] theorem State.setDe_cram2 (v : Word) : (s.setDe v).cram2 = s.cram2 := rfl
@[simp] theorem State.setDe_mapper (v : Word) : (s.setDe v).mapper = s.mapper := rfl
@[simp] theorem State.setDe_rom (v : Word) : (s.setDe v).rom = s.rom := rfl
@[simp] theorem State.setDe_romSize (v : Word) : (s.setDe v).romSize = s.romSize := rfl
@[simp] theorem State.setDe_cramSize (v : Word) : (s.setDe v).cramSize = s.cramSize := rfl
@[simp] theorem State.setDe_boot (v : Word) : (s.setDe v).boot = s.boot := rfl
@[simp] theorem State.setDe_cfg (v : Word) : (s.setDe v).cfg = s.cfg := rfl
@[simp] theorem State.setDe_ioAnswers (v : Word) : (s.setDe v).ioAnswers = s.ioAnswers := rfl
@[simp] theorem State.setDe_ioLog (v : Word) : (s.setDe v).ioLog = s.ioLog := rfl

@[simp] theorem State.setHl_a (v : Word) : (s.setHl v).a = s.a := rfl
@[simp] theorem State.setHl_b (v : Word) : (s.setHl v).b = s.b := rfl
@[simp] theorem State.setHl_c (v : Word) : (s.setHl v).c = s.c := rfl
@[simp] theorem State.setHl_d (v : Word) : (s.setHl v).d = s.d := rfl
@[simp] theorem State.setHl_e (v : Word) : (s.setHl v).e = s.e := rfl
@[simp] theorem State.setHl_f (v : Word) : (s.setHl v).f = s.f := rfl
@[simp] theorem State.setHl_h (v : Word) : (s.setHl v).h = highByte v := rfl
@[simp] theorem State.setHl_l (v : Word) : (s.setHl v).l = lowByte v := rfl
@[simp] theorem State.setHl_sp (v : Word) : (s.setHl v).sp = s.sp := rfl
@[simp] theorem State.setHl_pc (v : Word) : (s.setHl v).pc = s.pc := rfl
@[simp] theorem State.setHl_ime (v : Word) : (s.setHl v).ime = s.ime := rfl
@[simp] theorem State.setHl_run (v : Word) : (s.setHl v).run = s.run := rfl
@[simp] theorem State.setHl_fault (v : Word) : (s.setHl v).fault = s.fault := rfl
@[simp] theorem State.setHl_mark (v : Word) : (s.setHl v).mark = s.mark := rfl
@[simp] theorem State.setHl_bootOff (v : Word) : (s.setHl v).bootOff = s.bootOff := rfl
@[simp] theorem State.setHl_cycles (v : Word) : (s.setHl v).cycles = s.cycles := rfl
@[simp] theorem State.setHl_wram (v : Word) : (s.setHl v).wram = s.wram := rfl
@[simp] theorem State.setHl_vram (v : Word) : (s.setHl v).vram = s.vram := rfl
@[simp] theorem State.setHl_oam (v : Word) : (s.setHl v).oam = s.oam := rfl
@[simp] theorem State.setHl_cram (v : Word) : (s.setHl v).cram = s.cram := rfl
@[simp] theorem State.setHl_cram2 (v : Word) : (s.setHl v).cram2 = s.cram2 := rfl
@[simp] theorem State.setHl_mapper (v : Word) : (s.setHl v).mapper = s.mapper := rfl
@[simp] theorem State.setHl_rom (v : Word) : (s.setHl v).rom = s.rom := rfl
@[simp] theorem State.setHl_romSize (v : Word) : (s.setHl v).romSize = s.romSize := rfl
@[simp] theorem State.setHl_cramSize (v : Word) : (s.setHl v).cramSize = s.cramSize := rfl
@[simp] theorem State.setHl_boot (v : Word) : (s.setHl v).boot = s.boot := rfl
@[simp] theorem State.setHl_cfg (v : Word) : (s.setHl v).cfg = s.cfg := rfl
@[simp] theorem State.setHl_ioAnswers (v : Word) : (s.setHl v).ioAnswers = s.ioAnswers := rfl
@[simp] theorem State.setHl_ioLog (v : Word) : (s.setHl v).ioLog = s.ioLog := rfl

@[simp] theorem State.setAf_a (v : Word) : (s.setAf v).a = highByte v := rfl
@[simp] theorem State.setAf_b (v : Word) : (s.setAf v).b = s.b := rfl
@[simp] theorem State.setAf_c (v : Word) : (s.setAf v).c = s.c := rfl
@[simp] theorem State.setAf_d (v : Word) : (s.setAf v).d = s.d := rfl
@[simp] theorem State.setAf_e (v : Word) : (s.setAf v).e = s.e := rfl
@[simp] theorem State.setAf_f (v : Word) : (s.setAf v).f = lowByte v &&& 0xF0#8 := rfl
@[simp] theorem State.setAf_h (v : Word) : (s.setAf v).h = s.h := rfl
@[simp] theorem State.setAf_l (v : Word) : (s.setAf v).l = s.l := rfl
@[simp] theorem State.setAf_sp (v : Word) : (s.setAf v).sp = s.sp := rfl
@[simp] theorem State.setAf_pc (v : Word) : (s.setAf v).pc = s.pc := rfl
@[simp] theorem State.setAf_ime (v : Word) : (s.setAf v).ime = s.ime := rfl
@[simp] theorem State.setAf_run (v : Word) : (s.setAf v).run = s.run := rfl
@[simp] theorem State.setAf_fault (v : Word) : (s.setAf v).fault = s.fault := rfl
@[simp] theorem State.setAf_mark (v : Word) : (s.setAf v).mark = s.mark := rfl
@[simp] theorem State.setAf_bootOff (v : Word) : (s.setAf v).bootOff = s.bootOff := rfl
@[simp] theorem State.setAf_cycles (v : Word) : (s.setAf v).cycles = s.cycles := rfl
@[simp] theorem State.setAf_wram (v : Word) : (s.setAf v).wram = s.wram := rfl
@[simp] theorem State.setAf_vram (v : Word) : (s.setAf v).vram = s.vram := rfl
@[simp] theorem State.setAf_oam (v : Word) : (s.setAf v).oam = s.oam := rfl
@[simp] theorem State.setAf_cram (v : Word) : (s.setAf v).cram = s.cram := rfl
@[simp] theorem State.setAf_cram2 (v : Word) : (s.setAf v).cram2 = s.cram2 := rfl
@[simp] theorem State.setAf_mapper (v : Word) : (s.setAf v).mapper = s.mapper := rfl
@[simp] theorem State.setAf_rom (v : Word) : (s.setAf v).rom = s.rom := rfl
@[simp] theorem State.setAf_romSize (v : Word) : (s.setAf v).romSize = s.romSize := rfl
@[simp] theorem State.setAf_cramSize (v : Word) : (s.setAf v).cramSize = s.cramSize := rfl
@[simp] theorem State.setAf_boot (v : Word) : (s.setAf v).boot = s.boot := rfl
@[simp] theorem State.setAf_cfg (v : Word) : (s.setAf v).cfg = s.cfg := rfl
@[simp] theorem State.setAf_ioAnswers (v : Word) : (s.setAf v).ioAnswers = s.ioAnswers := rfl
@[simp] theorem State.setAf_ioLog (v : Word) : (s.setAf v).ioLog = s.ioLog := rfl

@[simp] theorem State.setPair_a (p : Pair) (v : Word) : (s.setPair p v).a = s.a := by cases p <;> rfl
@[simp] theorem State.setPair_f (p : Pair) (v : Word) : (s.setPair p v).f = s.f := by cases p <;> rfl
@[simp] theorem State.setPair_pc (p : Pair) (v : Word) : (s.setPair p v).pc = s.pc := by cases p <;> rfl
@[simp] theorem State.setPair_ime (p : Pair) (v : Word) : (s.setPair p v).ime = s.ime := by cases p <;> rfl
@[simp] theorem State.setPair_run (p : Pair) (v : Word) : (s.setPair p v).run = s.run := by cases p <;> rfl
@[simp] theorem State.setPair_fault (p : Pair) (v : Word) : (s.setPair p v).fault = s.fault := by cases p <;> rfl
@[simp] theorem State.setPair_mark (p : Pair) (v : Word) : (s.setPair p v).mark = s.mark := by cases p <;> rfl
@[simp] theorem State.setPair_bootOff (p : Pair) (v : Word) : (s.setPair p v).bootOff = s.bootOff := by cases p <;> rfl
@[simp] theorem State.setPair_cycles (p : Pair) (v : Word) : (s.setPair p v).cycles = s.cycles := by cases p <;> rfl
@[simp] theorem State.setPair_wram (p : Pair) (v : Word) : (s.setPair p v).wram = s.wram := by cases p <;> rfl
@[simp] theorem State.setPair_vram (p : Pair) (v : Word) : (s.setPair p v).vram = s.vram := by cases p <;> rfl
@[simp] theorem State.setPair_oam (p : Pair) (v : Word) : (s.setPair p v).oam = s.oam := by cases p <;> rfl
@[simp] theorem State.setPair_cram (p : Pair) (v : Word) : (s.setPair p v).cram = s.cram := by cases p <;> rfl
@[simp] theorem State.setPair_cram2 (p : Pair) (v : Word) : (s.setPair p v).cram2 = s.cram2 := by cases p <;> rfl
@[simp] theorem State.setPair_mapper (p : Pair) (v : Word) : (s.setPair p v).mapper = s.mapper := by cases p <;> rfl
@[simp] theorem State.setPair_rom (p : Pair) (v : Word) : (s.setPair p v).rom = s.rom := by cases p <;> rfl
@[simp] theorem State.setPair_romSize (p : Pair) (v : Word) : (s.setPair p v).romSize = s.romSize := by cases p <;> rfl
@[simp] theorem State.setPair_cramSize (p : Pair) (v : Word) : (s.setPair p v).cramSize = s.cramSize := by cases p <;> rfl
@[simp] theorem State.setPair_boot (p : Pair) (v : Word) : (s.setPair p v).boot = s.boot := by cases p <;> rfl
@[simp] theorem State.setPair_cfg (p : Pair) (v : Word) : (s.setPair p v).cfg = s.cfg := by cases p <;> rfl
@[simp] theorem State.setPair_ioAnswers (p : Pair) (v : Word) : (s.setPair p v).ioAnswers = s.ioAnswers := by cases p <;> rfl
@[simp] theorem State.setPair_ioLog (p : Pair) (v : Word) : (s.setPair p v).ioLog = s.ioLog := by cases p <;> rfl

@[simp] theorem State.setStackPair_sp (p : StackPair) (v : Word) : (s.setStackPair p v).sp = s.sp := by cases p <;> rfl
@[simp] theorem State.setStackPair_pc (p : StackPair) (v : Word) : (s.setStackPair p v).pc = s.pc := by cases p <;> rfl
@[simp] theorem State.setStackPair_ime (p : StackPair) (v : Word) : (s.setStackPair p v).ime = s.ime := by cases p <;> rfl
@[simp] theorem State.setStackPair_run (p : StackPair) (v : Word) : (s.setStackPair p v).run = s.run := by cases p <;> rfl
@[simp] theorem State.setStackPair_fault (p : StackPair) (v : Word) : (s.setStackPair p v).fault = s.fault := by cases p <;> rfl
@[simp] theorem State.setStackPair_mark (p : StackPair) (v : Word) : (s.setStackPair p v).mark = s.mark := by cases p <;> rfl
@[simp] theorem State.setStackPair_bootOff (p : StackPair) (v : Word) : (s.setStackPair p v).bootOff = s.bootOff := by cases p <;> rfl
@[simp] theorem State.setStackPair_cycles (p : StackPair) (v : Word) : (s.setStackPair p v).cycles = s.cycles := by cases p <;> rfl
@[simp] theorem State.setStackPair_wram (p : StackPair) (v : Word) : (s.setStackPair p v).wram = s.wram := by cases p <;> rfl
@[simp] theorem State.setStackPair_vram (p : StackPair) (v : Word) : (s.setStackPair p v).vram = s.vram := by cases p <;> rfl
@[simp] theorem State.setStackPair_oam (p : StackPair) (v : Word) : (s.setStackPair p v).oam = s.oam := by cases p <;> rfl
@[simp] theorem State.setStackPair_cram (p : StackPair) (v : Word) : (s.setStackPair p v).cram = s.cram := by cases p <;> rfl
@[simp] theorem State.setStackPair_cram2 (p : StackPair) (v : Word) : (s.setStackPair p v).cram2 = s.cram2 := by cases p <;> rfl
@[simp] theorem State.setStackPair_mapper (p : StackPair) (v : Word) : (s.setStackPair p v).mapper = s.mapper := by cases p <;> rfl
@[simp] theorem State.setStackPair_rom (p : StackPair) (v : Word) : (s.setStackPair p v).rom = s.rom := by cases p <;> rfl
@[simp] theorem State.setStackPair_romSize (p : StackPair) (v : Word) : (s.setStackPair p v).romSize = s.romSize := by cases p <;> rfl
@[simp] theorem State.setStackPair_cramSize (p : StackPair) (v : Word) : (s.setStackPair p v).cramSize = s.cramSize := by cases p <;> rfl
@[simp] theorem State.setStackPair_boot (p : StackPair) (v : Word) : (s.setStackPair p v).boot = s.boot := by cases p <;> rfl
@[simp] theorem State.setStackPair_cfg (p : StackPair) (v : Word) : (s.setStackPair p v).cfg = s.cfg := by cases p <;> rfl
@[simp] theorem State.setStackPair_ioAnswers (p : StackPair) (v : Word) : (s.setStackPair p v).ioAnswers = s.ioAnswers := by cases p <;> rfl
@[simp] theorem State.setStackPair_ioLog (p : StackPair) (v : Word) : (s.setStackPair p v).ioLog = s.ioLog := by cases p <;> rfl

@[simp] theorem State.setPc_a (v : Word) : (s.setPc v).a = s.a := rfl
@[simp] theorem State.setPc_b (v : Word) : (s.setPc v).b = s.b := rfl
@[simp] theorem State.setPc_c (v : Word) : (s.setPc v).c = s.c := rfl
@[simp] theorem State.setPc_d (v : Word) : (s.setPc v).d = s.d := rfl
@[simp] theorem State.setPc_e (v : Word) : (s.setPc v).e = s.e := rfl
@[simp] theorem State.setPc_f (v : Word) : (s.setPc v).f = s.f := rfl
@[simp] theorem State.setPc_h (v : Word) : (s.setPc v).h = s.h := rfl
@[simp] theorem State.setPc_l (v : Word) : (s.setPc v).l = s.l := rfl
@[simp] theorem State.setPc_sp (v : Word) : (s.setPc v).sp = s.sp := rfl
@[simp] theorem State.setPc_pc (v : Word) : (s.setPc v).pc = v := rfl
@[simp] theorem State.setPc_ime (v : Word) : (s.setPc v).ime = s.ime := rfl
@[simp] theorem State.setPc_run (v : Word) : (s.setPc v).run = s.run := rfl
@[simp] theorem State.setPc_fault (v : Word) : (s.setPc v).fault = s.fault := rfl
@[simp] theorem State.setPc_mark (v : Word) : (s.setPc v).mark = s.mark := rfl
@[simp] theorem State.setPc_bootOff (v : Word) : (s.setPc v).bootOff = s.bootOff := rfl
@[simp] theorem State.setPc_cycles (v : Word) : (s.setPc v).cycles = s.cycles := rfl
@[simp] theorem State.setPc_wram (v : Word) : (s.setPc v).wram = s.wram := rfl
@[simp] theorem State.setPc_vram (v : Word) : (s.setPc v).vram = s.vram := rfl
@[simp] theorem State.setPc_oam (v : Word) : (s.setPc v).oam = s.oam := rfl
@[simp] theorem State.setPc_cram (v : Word) : (s.setPc v).cram = s.cram := rfl
@[simp] theorem State.setPc_cram2 (v : Word) : (s.setPc v).cram2 = s.cram2 := rfl
@[simp] theorem State.setPc_mapper (v : Word) : (s.setPc v).mapper = s.mapper := rfl
@[simp] theorem State.setPc_rom (v : Word) : (s.setPc v).rom = s.rom := rfl
@[simp] theorem State.setPc_romSize (v : Word) : (s.setPc v).romSize = s.romSize := rfl
@[simp] theorem State.setPc_cramSize (v : Word) : (s.setPc v).cramSize = s.cramSize := rfl
@[simp] theorem State.setPc_boot (v : Word) : (s.setPc v).boot = s.boot := rfl
@[simp] theorem State.setPc_cfg (v : Word) : (s.setPc v).cfg = s.cfg := rfl
@[simp] theorem State.setPc_ioAnswers (v : Word) : (s.setPc v).ioAnswers = s.ioAnswers := rfl
@[simp] theorem State.setPc_ioLog (v : Word) : (s.setPc v).ioLog = s.ioLog := rfl

@[simp] theorem State.setSp_a (v : Word) : (s.setSp v).a = s.a := rfl
@[simp] theorem State.setSp_b (v : Word) : (s.setSp v).b = s.b := rfl
@[simp] theorem State.setSp_c (v : Word) : (s.setSp v).c = s.c := rfl
@[simp] theorem State.setSp_d (v : Word) : (s.setSp v).d = s.d := rfl
@[simp] theorem State.setSp_e (v : Word) : (s.setSp v).e = s.e := rfl
@[simp] theorem State.setSp_f (v : Word) : (s.setSp v).f = s.f := rfl
@[simp] theorem State.setSp_h (v : Word) : (s.setSp v).h = s.h := rfl
@[simp] theorem State.setSp_l (v : Word) : (s.setSp v).l = s.l := rfl
@[simp] theorem State.setSp_sp (v : Word) : (s.setSp v).sp = v := rfl
@[simp] theorem State.setSp_pc (v : Word) : (s.setSp v).pc = s.pc := rfl
@[simp] theorem State.setSp_ime (v : Word) : (s.setSp v).ime = s.ime := rfl
@[simp] theorem State.setSp_run (v : Word) : (s.setSp v).run = s.run := rfl
@[simp] theorem State.setSp_fault (v : Word) : (s.setSp v).fault = s.fault := rfl
@[simp] theorem State.setSp_mark (v : Word) : (s.setSp v).mark = s.mark := rfl
@[simp] theorem State.setSp_bootOff (v : Word) : (s.setSp v).bootOff = s.bootOff := rfl
@[simp] theorem State.setSp_cycles (v : Word) : (s.setSp v).cycles = s.cycles := rfl
@[simp] theorem State.setSp_wram (v : Word) : (s.setSp v).wram = s.wram := rfl
@[simp] theorem State.setSp_vram (v : Word) : (s.setSp v).vram = s.vram := rfl
@[simp] theorem State.setSp_oam (v : Word) : (s.setSp v).oam = s.oam := rfl
@[simp] theorem State.setSp_cram (v : Word) : (s.setSp v).cram = s.cram := rfl
@[simp] theorem State.setSp_cram2 (v : Word) : (s.setSp v).cram2 = s.cram2 := rfl
@[simp] theorem State.setSp_mapper (v : Word) : (s.setSp v).mapper = s.mapper := rfl
@[simp] theorem State.setSp_rom (v : Word) : (s.setSp v).rom = s.rom := rfl
@[simp] theorem State.setSp_romSize (v : Word) : (s.setSp v).romSize = s.romSize := rfl
@[simp] theorem State.setSp_cramSize (v : Word) : (s.setSp v).cramSize = s.cramSize := rfl
@[simp] theorem State.setSp_boot (v : Word) : (s.setSp v).boot = s.boot := rfl
@[simp] theorem State.setSp_cfg (v : Word) : (s.setSp v).cfg = s.cfg := rfl
@[simp] theorem State.setSp_ioAnswers (v : Word) : (s.setSp v).ioAnswers = s.ioAnswers := rfl
@[simp] theorem State.setSp_ioLog (v : Word) : (s.setSp v).ioLog = s.ioLog := rfl

@[simp] theorem State.addCycles_a (n : Nat) : (s.addCycles n).a = s.a := rfl
@[simp] theorem State.addCycles_b (n : Nat) : (s.addCycles n).b = s.b := rfl
@[simp] theorem State.addCycles_c (n : Nat) : (s.addCycles n).c = s.c := rfl
@[simp] theorem State.addCycles_d (n : Nat) : (s.addCycles n).d = s.d := rfl
@[simp] theorem State.addCycles_e (n : Nat) : (s.addCycles n).e = s.e := rfl
@[simp] theorem State.addCycles_f (n : Nat) : (s.addCycles n).f = s.f := rfl
@[simp] theorem State.addCycles_h (n : Nat) : (s.addCycles n).h = s.h := rfl
@[simp] theorem State.addCycles_l (n : Nat) : (s.addCycles n).l = s.l := rfl
@[simp] theorem State.addCycles_sp (n : Nat) : (s.addCycles n).sp = s.sp := rfl
@[simp] theorem State.addCycles_pc (n : Nat) : (s.addCycles n).pc = s.pc := rfl
@[simp] theorem State.addCycles_ime (n : Nat) : (s.addCycles n).ime = s.ime := rfl
@[simp] theorem State.addCycles_run (n : Nat) : (s.addCycles n).run = s.run := rfl
@[simp] theorem State.addCycles_fault (n : Nat) : (s.addCycles n).fault = s.fault := rfl
@[simp] theorem State.addCycles_mark (n : Nat) : (s.addCycles n).mark = s.mark := rfl
@[simp] theorem State.addCycles_bootOff (n : Nat) : (s.addCycles n).bootOff = s.bootOff := rfl
@[simp] theorem State.addCycles_cycles (n : Nat) : (s.addCycles n).cycles = s.cycles + n := rfl
@[simp] theorem State.addCycles_wram (n : Nat) : (s.addCycles n).wram = s.wram := rfl
@[simp] theorem State.addCycles_vram (n : Nat) : (s.addCycles n).vram = s.vram := rfl
@[simp] theorem State.addCycles_oam (n : Nat) : (s.addCycles n).oam = s.oam := rfl
@[simp] theorem State.addCycles_cram (n : Nat) : (s.addCycles n).cram = s.cram := rfl
@[simp] theorem State.addCycles_cram2 (n : Nat) : (s.addCycles n).cram2 = s.cram2 := rfl
@[simp] theorem State.addCycles_mapper (n : Nat) : (s.addCycles n).mapper = s.mapper := rfl
@[simp] theorem State.addCycles_rom (n : Nat) : (s.addCycles n).rom = s.rom := rfl
@[simp] theorem State.addCycles_romSize (n : Nat) : (s.addCycles n).romSize = s.romSize := rfl
@[simp] theorem State.addCycles_cramSize (n : Nat) : (s.addCycles n).cramSize = s.cramSize := rfl
@[simp] theorem State.addCycles_boot (n : Nat) : (s.addCycles n).boot = s.boot := rfl
@[simp] theorem State.addCycles_cfg (n : Nat) : (s.addCycles n).cfg = s.cfg := rfl
@[simp] theorem State.addCycles_ioAnswers (n : Nat) : (s.addCycles n).ioAnswers = s.ioAnswers := rfl
@[simp] theorem State.addCycles_ioLog (n : Nat) : (s.addCycles n).ioLog = s.ioLog := rfl

@[simp] theorem State.withFlagsOf_a {w : Nat} (r : FlagResult w) : (s.withFlagsOf r).a = s.a := rfl
@[simp] theorem State.withFlagsOf_b {w : Nat} (r : FlagResult w) : (s.withFlagsOf r).b = s.b := rfl
@[simp] theorem State.withFlagsOf_c {w : Nat} (r : FlagResult w) : (s.withFlagsOf r).c = s.c := rfl
@[simp] theorem State.withFlagsOf_d {w : Nat} (r : FlagResult w) : (s.withFlagsOf r).d = s.d := rfl
@[simp] theorem State.withFlagsOf_e {w : Nat} (r : FlagResult w) : (s.withFlagsOf r).e = s.e := rfl
@[simp] theorem State.withFlagsOf_f {w : Nat} (r : FlagResult w) : (s.withFlagsOf r).f = packFlags r.z r.n r.h r.c &&& 0xF0#8 := rfl
@[simp] theorem State.withFlagsOf_h {w : Nat} (r : FlagResult w) : (s.withFlagsOf r).h = s.h := rfl
@[simp] theorem State.withFlagsOf_l {w : Nat} (r : FlagResult w) : (s.withFlagsOf r).l = s.l := rfl
@[simp] theorem State.withFlagsOf_sp {w : Nat} (r : FlagResult w) : (s.withFlagsOf r).sp = s.sp := rfl
@[simp] theorem State.withFlagsOf_pc {w : Nat} (r : FlagResult w) : (s.withFlagsOf r).pc = s.pc := rfl
@[simp] theorem State.withFlagsOf_ime {w : Nat} (r : FlagResult w) : (s.withFlagsOf r).ime = s.ime := rfl
@[simp] theorem State.withFlagsOf_run {w : Nat} (r : FlagResult w) : (s.withFlagsOf r).run = s.run := rfl
@[simp] theorem State.withFlagsOf_fault {w : Nat} (r : FlagResult w) : (s.withFlagsOf r).fault = s.fault := rfl
@[simp] theorem State.withFlagsOf_mark {w : Nat} (r : FlagResult w) : (s.withFlagsOf r).mark = s.mark := rfl
@[simp] theorem State.withFlagsOf_bootOff {w : Nat} (r : FlagResult w) : (s.withFlagsOf r).bootOff = s.bootOff := rfl
@[simp] theorem State.withFlagsOf_cycles {w : Nat} (r : FlagResult w) : (s.withFlagsOf r).cycles = s.cycles := rfl
@[simp] theorem State.withFlagsOf_wram {w : Nat} (r : FlagResult w) : (s.withFlagsOf r).wram = s.wram := rfl
@[simp] theorem State.withFlagsOf_vram {w : Nat} (r : FlagResult w) : (s.withFlagsOf r).vram = s.vram := rfl
@[simp] theorem State.withFlagsOf_oam {w : Nat} (r : FlagResult w) : (s.withFlagsOf r).oam = s.oam := rfl
@[simp] theorem State.withFlagsOf_cram {w : Nat} (r : FlagResult w) : (s.withFlagsOf r).cram = s.cram := rfl
@[simp] theorem State.withFlagsOf_cram2 {w : Nat} (r : FlagResult w) : (s.withFlagsOf r).cram2 = s.cram2 := rfl
@[simp] theorem State.withFlagsOf_mapper {w : Nat} (r : FlagResult w) : (s.withFlagsOf r).mapper = s.mapper := rfl
@[simp] theorem State.withFlagsOf_rom {w : Nat} (r : FlagResult w) : (s.withFlagsOf r).rom = s.rom := rfl
@[simp] theorem State.withFlagsOf_romSize {w : Nat} (r : FlagResult w) : (s.withFlagsOf r).romSize = s.romSize := rfl
@[simp] theorem State.withFlagsOf_cramSize {w : Nat} (r : FlagResult w) : (s.withFlagsOf r).cramSize = s.cramSize := rfl
@[simp] theorem State.withFlagsOf_boot {w : Nat} (r : FlagResult w) : (s.withFlagsOf r).boot = s.boot := rfl
@[simp] theorem State.withFlagsOf_cfg {w : Nat} (r : FlagResult w) : (s.withFlagsOf r).cfg = s.cfg := rfl
@[simp] theorem State.withFlagsOf_ioAnswers {w : Nat} (r : FlagResult w) : (s.withFlagsOf r).ioAnswers = s.ioAnswers := rfl
@[simp] theorem State.withFlagsOf_ioLog {w : Nat} (r : FlagResult w) : (s.withFlagsOf r).ioLog = s.ioLog := rfl

@[simp] theorem State.incFlags_a (v : Byte) : (s.incFlags v).a = s.a := rfl
@[simp] theorem State.incFlags_b (v : Byte) : (s.incFlags v).b = s.b := rfl
@[simp] theorem State.incFlags_c (v : Byte) : (s.incFlags v).c = s.c := rfl
@[simp] theorem State.incFlags_d (v : Byte) : (s.incFlags v).d = s.d := rfl
@[simp] theorem State.incFlags_e (v : Byte) : (s.incFlags v).e = s.e := rfl
@[simp] theorem State.incFlags_h (v : Byte) : (s.incFlags v).h = s.h := rfl
@[simp] theorem State.incFlags_l (v : Byte) : (s.incFlags v).l = s.l := rfl
@[simp] theorem State.incFlags_sp (v : Byte) : (s.incFlags v).sp = s.sp := rfl
@[simp] theorem State.incFlags_pc (v : Byte) : (s.incFlags v).pc = s.pc := rfl
@[simp] theorem State.incFlags_ime (v : Byte) : (s.incFlags v).ime = s.ime := rfl
@[simp] theorem State.incFlags_run (v : Byte) : (s.incFlags v).run = s.run := rfl
@[simp] theorem State.incFlags_fault (v : Byte) : (s.incFlags v).fault = s.fault := rfl
@[simp] theorem State.incFlags_mark (v : Byte) : (s.incFlags v).mark = s.mark := rfl
@[simp] theorem State.incFlags_bootOff (v : Byte) : (s.incFlags v).bootOff = s.bootOff := rfl
@[simp] theorem State.incFlags_cycles (v : Byte) : (s.incFlags v).cycles = s.cycles := rfl
@[simp] theorem State.incFlags_wram (v : Byte) : (s.incFlags v).wram = s.wram := rfl
@[simp] theorem State.incFlags_vram (v : Byte) : (s.incFlags v).vram = s.vram := rfl
@[simp] theorem State.incFlags_oam (v : Byte) : (s.incFlags v).oam = s.oam := rfl
@[simp] theorem State.incFlags_cram (v : Byte) : (s.incFlags v).cram = s.cram := rfl
@[simp] theorem State.incFlags_cram2 (v : Byte) : (s.incFlags v).cram2 = s.cram2 := rfl
@[simp] theorem State.incFlags_mapper (v : Byte) : (s.incFlags v).mapper = s.mapper := rfl
@[simp] theorem State.incFlags_rom (v : Byte) : (s.incFlags v).rom = s.rom := rfl
@[simp] theorem State.incFlags_romSize (v : Byte) : (s.incFlags v).romSize = s.romSize := rfl
@[simp] theorem State.incFlags_cramSize (v : Byte) : (s.incFlags v).cramSize = s.cramSize := rfl
@[simp] theorem State.incFlags_boot (v : Byte) : (s.incFlags v).boot = s.boot := rfl
@[simp] theorem State.incFlags_cfg (v : Byte) : (s.incFlags v).cfg = s.cfg := rfl
@[simp] theorem State.incFlags_ioAnswers (v : Byte) : (s.incFlags v).ioAnswers = s.ioAnswers := rfl
@[simp] theorem State.incFlags_ioLog (v : Byte) : (s.incFlags v).ioLog = s.ioLog := rfl

@[simp] theorem State.decFlags_a (v : Byte) : (s.decFlags v).a = s.a := rfl
@[simp] theorem State.decFlags_b (v : Byte) : (s.decFlags v).b = s.b := rfl
@[simp] theorem State.decFlags_c (v : Byte) : (s.decFlags v).c = s.c := rfl
@[simp] theorem State.decFlags_d (v : Byte) : (s.decFlags v).d = s.d := rfl
@[simp] theorem State.decFlags_e (v : Byte) : (s.decFlags v).e = s.e := rfl
@[simp] theorem State.decFlags_h (v : Byte) : (s.decFlags v).h = s.h := rfl
@[simp] theorem State.decFlags_l (v : Byte) : (s.decFlags v).l = s.l := rfl
@[simp] theorem State.decFlags_sp (v : Byte) : (s.decFlags v).sp = s.sp := rfl
@[simp] theorem State.decFlags_pc (v : Byte) : (s.decFlags v).pc = s.pc := rfl
@[simp] theorem State.decFlags_ime (v : Byte) : (s.decFlags v).ime = s.ime := rfl
@[simp] theorem State.decFlags_run (v : Byte) : (s.decFlags v).run = s.run := rfl
@[simp] theorem State.decFlags_fault (v : Byte) : (s.decFlags v).fault = s.fault := rfl
@[simp] theorem State.decFlags_mark (v : Byte) : (s.decFlags v).mark = s.mark := rfl
@[simp] theorem State.decFlags_bootOff (v : Byte) : (s.decFlags v).bootOff = s.bootOff := rfl
@[simp] theorem State.decFlags_cycles (v : Byte) : (s.decFlags v).cycles = s.cycles := rfl
@[simp] theorem State.decFlags_wram (v : Byte) : (s.decFlags v).wram = s.wram := rfl
@[simp] theorem State.decFlags_vram (v : Byte) : (s.decFlags v).vram = s.vram := rfl
@[simp] theorem State.decFlags_oam (v : Byte) : (s.decFlags v).oam = s.oam := rfl
@[simp] theorem State.decFlags_cram (v : Byte) : (s.decFlags v).cram = s.cram := rfl
@[simp] theorem State.decFlags_cram2 (v : Byte) : (s.decFlags v).cram2 = s.cram2 := rfl
@[simp] theorem State.decFlags_mapper (v : Byte) : (s.decFlags v).mapper = s.mapper := rfl
@[simp] theorem State.decFlags_rom (v : Byte) : (s.decFlags v).rom = s.rom := rfl
@[simp] theorem State.decFlags_romSize (v : Byte) : (s.decFlags v).romSize = s.romSize := rfl
@[simp] theorem State.decFlags_cramSize (v : Byte) : (s.decFlags v).cramSize = s.cramSize := rfl
@[simp] theorem State.decFlags_boot (v : Byte) : (s.decFlags v).boot = s.boot := rfl
@[simp] theorem State.decFlags_cfg (v : Byte) : (s.decFlags v).cfg = s.cfg := rfl
@[simp] theorem State.decFlags_ioAnswers (v : Byte) : (s.decFlags v).ioAnswers = s.ioAnswers := rfl
@[simp] theorem State.decFlags_ioLog (v : Byte) : (s.decFlags v).ioLog = s.ioLog := rfl

@[simp] theorem State.alu_b (op : AluOp) (v : Byte) : (s.alu op v).b = s.b := by cases op <;> rfl
@[simp] theorem State.alu_c (op : AluOp) (v : Byte) : (s.alu op v).c = s.c := by cases op <;> rfl
@[simp] theorem State.alu_d (op : AluOp) (v : Byte) : (s.alu op v).d = s.d := by cases op <;> rfl
@[simp] theorem State.alu_e (op : AluOp) (v : Byte) : (s.alu op v).e = s.e := by cases op <;> rfl
@[simp] theorem State.alu_h (op : AluOp) (v : Byte) : (s.alu op v).h = s.h := by cases op <;> rfl
@[simp] theorem State.alu_l (op : AluOp) (v : Byte) : (s.alu op v).l = s.l := by cases op <;> rfl
@[simp] theorem State.alu_sp (op : AluOp) (v : Byte) : (s.alu op v).sp = s.sp := by cases op <;> rfl
@[simp] theorem State.alu_pc (op : AluOp) (v : Byte) : (s.alu op v).pc = s.pc := by cases op <;> rfl
@[simp] theorem State.alu_ime (op : AluOp) (v : Byte) : (s.alu op v).ime = s.ime := by cases op <;> rfl
@[simp] theorem State.alu_run (op : AluOp) (v : Byte) : (s.alu op v).run = s.run := by cases op <;> rfl
@[simp] theorem State.alu_fault (op : AluOp) (v : Byte) : (s.alu op v).fault = s.fault := by cases op <;> rfl
@[simp] theorem State.alu_mark (op : AluOp) (v : Byte) : (s.alu op v).mark = s.mark := by cases op <;> rfl
@[simp] theorem State.alu_bootOff (op : AluOp) (v : Byte) : (s.alu op v).bootOff = s.bootOff := by cases op <;> rfl
@[simp] theorem State.alu_cycles (op : AluOp) (v : Byte) : (s.alu op v).cycles = s.cycles := by cases op <;> rfl
@[simp] theorem State.alu_wram (op : AluOp) (v : Byte) : (s.alu op v).wram = s.wram := by cases op <;> rfl
@[simp] theorem State.alu_vram (op : AluOp) (v : Byte) : (s.alu op v).vram = s.vram := by cases op <;> rfl
@[simp] theorem State.alu_oam (op : AluOp) (v : Byte) : (s.alu op v).oam = s.oam := by cases op <;> rfl
@[simp] theorem State.alu_cram (op : AluOp) (v : Byte) : (s.alu op v).cram = s.cram := by cases op <;> rfl
@[simp] theorem State.alu_cram2 (op : AluOp) (v : Byte) : (s.alu op v).cram2 = s.cram2 := by cases op <;> rfl
@[simp] theorem State.alu_mapper (op : AluOp) (v : Byte) : (s.alu op v).mapper = s.mapper := by cases op <;> rfl
@[simp] theorem State.alu_rom (op : AluOp) (v : Byte) : (s.alu op v).rom = s.rom := by cases op <;> rfl
@[simp] theorem State.alu_romSize (op : AluOp) (v : Byte) : (s.alu op v).romSize = s.romSize := by cases op <;> rfl
@[simp] theorem State.alu_cramSize (op : AluOp) (v : Byte) : (s.alu op v).cramSize = s.cramSize := by cases op <;> rfl
@[simp] theorem State.alu_boot (op : AluOp) (v : Byte) : (s.alu op v).boot = s.boot := by cases op <;> rfl
@[simp] theorem State.alu_cfg (op : AluOp) (v : Byte) : (s.alu op v).cfg = s.cfg := by cases op <;> rfl
@[simp] theorem State.alu_ioAnswers (op : AluOp) (v : Byte) : (s.alu op v).ioAnswers = s.ioAnswers := by cases op <;> rfl
@[simp] theorem State.alu_ioLog (op : AluOp) (v : Byte) : (s.alu op v).ioLog = s.ioLog := by cases op <;> rfl

@[simp] theorem State.daa_b : s.daa.b = s.b := rfl
@[simp] theorem State.daa_c : s.daa.c = s.c := rfl
@[simp] theorem State.daa_d : s.daa.d = s.d := rfl
@[simp] theorem State.daa_e : s.daa.e = s.e := rfl
@[simp] theorem State.daa_h : s.daa.h = s.h := rfl
@[simp] theorem State.daa_l : s.daa.l = s.l := rfl
@[simp] theorem State.daa_sp : s.daa.sp = s.sp := rfl
@[simp] theorem State.daa_pc : s.daa.pc = s.pc := rfl
@[simp] theorem State.daa_ime : s.daa.ime = s.ime := rfl
@[simp] theorem State.daa_run : s.daa.run = s.run := rfl
@[simp] theorem State.daa_fault : s.daa.fault = s.fault := rfl
@[simp] theorem State.daa_mark : s.daa.mark = s.mark := rfl
@[simp] theorem State.daa_bootOff : s.daa.bootOff = s.bootOff := rfl
@[simp] theorem State.daa_cycles : s.daa.cycles = s.cycles := rfl
@[simp] theorem State.daa_wram : s.daa.wram = s.wram := rfl
@[simp] theorem State.daa_vram : s.daa.vram = s.vram := rfl
@[simp] theorem State.daa_oam : s.daa.oam = s.oam := rfl
@[simp] theorem State.daa_cram : s.daa.cram = s.cram := rfl
@[simp] theorem State.daa_cram2 : s.daa.cram2 = s.cram2 := rfl
@[simp] theorem State.daa_mapper : s.daa.mapper = s.mapper := rfl
@[simp] theorem State.daa_rom : s.daa.rom = s.rom := rfl
@[simp] theorem State.daa_romSize : s.daa.romSize = s.romSize := rfl
@[simp] theorem State.daa_cramSize : s.daa.cramSize = s.cramSize := rfl
@[simp] theorem State.daa_boot : s.daa.boot = s.boot := rfl
@[simp] theorem State.daa_cfg : s.daa.cfg = s.cfg := rfl
@[simp] theorem State.daa_ioAnswers : s.daa.ioAnswers = s.ioAnswers := rfl
@[simp] theorem State.daa_ioLog : s.daa.ioLog = s.ioLog := rfl

@[simp] theorem State.endRun_a (why : Stop) (p : Word) (o : Option Opcode) : (s.endRun why p o).a = s.a := by cases why <;> rfl
@[simp] theorem State.endRun_b (why : Stop) (p : Word) (o : Option Opcode) : (s.endRun why p o).b = s.b := by cases why <;> rfl
@[simp] theorem State.endRun_c (why : Stop) (p : Word) (o : Option Opcode) : (s.endRun why p o).c = s.c := by cases why <;> rfl
@[simp] theorem State.endRun_d (why : Stop) (p : Word) (o : Option Opcode) : (s.endRun why p o).d = s.d := by cases why <;> rfl
@[simp] theorem State.endRun_e (why : Stop) (p : Word) (o : Option Opcode) : (s.endRun why p o).e = s.e := by cases why <;> rfl
@[simp] theorem State.endRun_f (why : Stop) (p : Word) (o : Option Opcode) : (s.endRun why p o).f = s.f := by cases why <;> rfl
@[simp] theorem State.endRun_h (why : Stop) (p : Word) (o : Option Opcode) : (s.endRun why p o).h = s.h := by cases why <;> rfl
@[simp] theorem State.endRun_l (why : Stop) (p : Word) (o : Option Opcode) : (s.endRun why p o).l = s.l := by cases why <;> rfl
@[simp] theorem State.endRun_sp (why : Stop) (p : Word) (o : Option Opcode) : (s.endRun why p o).sp = s.sp := by cases why <;> rfl
@[simp] theorem State.endRun_pc (why : Stop) (p : Word) (o : Option Opcode) : (s.endRun why p o).pc = s.pc := by cases why <;> rfl
@[simp] theorem State.endRun_ime (why : Stop) (p : Word) (o : Option Opcode) : (s.endRun why p o).ime = s.ime := by cases why <;> rfl
@[simp] theorem State.endRun_run (why : Stop) (p : Word) (o : Option Opcode) : (s.endRun why p o).run = s.run := by cases why <;> rfl
@[simp] theorem State.endRun_bootOff (why : Stop) (p : Word) (o : Option Opcode) : (s.endRun why p o).bootOff = s.bootOff := by cases why <;> rfl
@[simp] theorem State.endRun_cycles (why : Stop) (p : Word) (o : Option Opcode) : (s.endRun why p o).cycles = s.cycles := by cases why <;> rfl
@[simp] theorem State.endRun_wram (why : Stop) (p : Word) (o : Option Opcode) : (s.endRun why p o).wram = s.wram := by cases why <;> rfl
@[simp] theorem State.endRun_vram (why : Stop) (p : Word) (o : Option Opcode) : (s.endRun why p o).vram = s.vram := by cases why <;> rfl
@[simp] theorem State.endRun_oam (why : Stop) (p : Word) (o : Option Opcode) : (s.endRun why p o).oam = s.oam := by cases why <;> rfl
@[simp] theorem State.endRun_cram (why : Stop) (p : Word) (o : Option Opcode) : (s.endRun why p o).cram = s.cram := by cases why <;> rfl
@[simp] theorem State.endRun_cram2 (why : Stop) (p : Word) (o : Option Opcode) : (s.endRun why p o).cram2 = s.cram2 := by cases why <;> rfl
@[simp] theorem State.endRun_mapper (why : Stop) (p : Word) (o : Option Opcode) : (s.endRun why p o).mapper = s.mapper := by cases why <;> rfl
@[simp] theorem State.endRun_rom (why : Stop) (p : Word) (o : Option Opcode) : (s.endRun why p o).rom = s.rom := by cases why <;> rfl
@[simp] theorem State.endRun_romSize (why : Stop) (p : Word) (o : Option Opcode) : (s.endRun why p o).romSize = s.romSize := by cases why <;> rfl
@[simp] theorem State.endRun_cramSize (why : Stop) (p : Word) (o : Option Opcode) : (s.endRun why p o).cramSize = s.cramSize := by cases why <;> rfl
@[simp] theorem State.endRun_boot (why : Stop) (p : Word) (o : Option Opcode) : (s.endRun why p o).boot = s.boot := by cases why <;> rfl
@[simp] theorem State.endRun_cfg (why : Stop) (p : Word) (o : Option Opcode) : (s.endRun why p o).cfg = s.cfg := by cases why <;> rfl
@[simp] theorem State.endRun_ioAnswers (why : Stop) (p : Word) (o : Option Opcode) : (s.endRun why p o).ioAnswers = s.ioAnswers := by cases why <;> rfl
@[simp] theorem State.endRun_ioLog (why : Stop) (p : Word) (o : Option Opcode) : (s.endRun why p o).ioLog = s.ioLog := by cases why <;> rfl

@[simp] theorem State.readyToFetch_a : s.readyToFetch.a = s.a := rfl
@[simp] theorem State.readyToFetch_b : s.readyToFetch.b = s.b := rfl
@[simp] theorem State.readyToFetch_c : s.readyToFetch.c = s.c := rfl
@[simp] theorem State.readyToFetch_d : s.readyToFetch.d = s.d := rfl
@[simp] theorem State.readyToFetch_e : s.readyToFetch.e = s.e := rfl
@[simp] theorem State.readyToFetch_f : s.readyToFetch.f = s.f := rfl
@[simp] theorem State.readyToFetch_h : s.readyToFetch.h = s.h := rfl
@[simp] theorem State.readyToFetch_l : s.readyToFetch.l = s.l := rfl
@[simp] theorem State.readyToFetch_sp : s.readyToFetch.sp = s.sp := rfl
@[simp] theorem State.readyToFetch_pc : s.readyToFetch.pc = s.pc := rfl
@[simp] theorem State.readyToFetch_ime : s.readyToFetch.ime = s.ime := rfl
@[simp] theorem State.readyToFetch_bootOff : s.readyToFetch.bootOff = s.bootOff := rfl
@[simp] theorem State.readyToFetch_cycles : s.readyToFetch.cycles = s.cycles := rfl
@[simp] theorem State.readyToFetch_wram : s.readyToFetch.wram = s.wram := rfl
@[simp] theorem State.readyToFetch_vram : s.readyToFetch.vram = s.vram := rfl
@[simp] theorem State.readyToFetch_oam : s.readyToFetch.oam = s.oam := rfl
@[simp] theorem State.readyToFetch_cram : s.readyToFetch.cram = s.cram := rfl
@[simp] theorem State.readyToFetch_cram2 : s.readyToFetch.cram2 = s.cram2 := rfl
@[simp] theorem State.readyToFetch_mapper : s.readyToFetch.mapper = s.mapper := rfl
@[simp] theorem State.readyToFetch_rom : s.readyToFetch.rom = s.rom := rfl
@[simp] theorem State.readyToFetch_romSize : s.readyToFetch.romSize = s.romSize := rfl
@[simp] theorem State.readyToFetch_cramSize : s.readyToFetch.cramSize = s.cramSize := rfl
@[simp] theorem State.readyToFetch_boot : s.readyToFetch.boot = s.boot := rfl
@[simp] theorem State.readyToFetch_cfg : s.readyToFetch.cfg = s.cfg := rfl
@[simp] theorem State.readyToFetch_ioAnswers : s.readyToFetch.ioAnswers = s.ioAnswers := rfl
@[simp] theorem State.readyToFetch_ioLog : s.readyToFetch.ioLog = s.ioLog := rfl

/-! ## What is read back -/

@[simp] theorem State.getReg_setReg (r q : Reg) (v : Byte) :
    (s.setReg r v).getReg q = if q = r then v else s.getReg q := by cases r <;> cases q <;> rfl

@[simp] theorem State.setPc_getReg (v : Word) (r : Reg) : (s.setPc v).getReg r = s.getReg r := by
  cases r <;> rfl

@[simp] theorem State.setSp_getReg (v : Word) (r : Reg) : (s.setSp v).getReg r = s.getReg r := by
  cases r <;> rfl

@[simp] theorem State.setF_getReg (v : Byte) (r : Reg) : (s.setF v).getReg r = s.getReg r := by
  cases r <;> rfl

@[simp] theorem State.setFlags_getReg (z n h c : Bool) (r : Reg) :
    (s.setFlags z n h c).getReg r = s.getReg r := by cases r <;> rfl

@[simp] theorem State.addCycles_getReg (n : Nat) (r : Reg) : (s.addCycles n).getReg r = s.getReg r := by
  cases r <;> rfl

@[simp] theorem State.endRun_getReg (why : Stop) (p : Word) (o : Option Opcode) (r : Reg) :
    (s.endRun why p o).getReg r = s.getReg r := by cases why <;> cases r <;> rfl

end Sys2Proof.Machine
end

