-- ==== Sys2Proof/Laws/Access.lean ====
section
/-! SUPPORT. The laws of the access operations: how a computation of a step composes, what a byte access may
change, and that every memory operation keeps the stores in canonical form. -/

namespace Sys2Proof.Machine

/-! ## Composition -/

theorem Exec.bind_apply {α β : Type} (x : Exec α) (f : α → Exec β) (s : State) :
    (x >>= f) s = match x s with
      | .ok v s' => f v s'
      | .error why s' => .error why s' := by
  show EStateM.bind x f s = _
  unfold EStateM.bind
  cases x s <;> rfl

theorem Exec.bind_of_ok {α β : Type} {x : Exec α} {f : α → Exec β} {s s' : State} {v : α}
    (h : x s = .ok v s') : (x >>= f) s = f v s' := by rw [Exec.bind_apply, h]

theorem Exec.bind_of_error {α β : Type} {x : Exec α} {f : α → Exec β} {s s' : State} {why : Stop}
    (h : x s = .error why s') : (x >>= f) s = .error why s' := by rw [Exec.bind_apply, h]

@[simp] theorem Exec.pure_apply {α : Type} (v : α) (s : State) : (pure v : Exec α) s = .ok v s := rfl

@[simp] theorem look_apply {α : Type} (f : State → α) (s : State) : look f s = .ok (f s) s := rfl

@[simp] theorem update_apply (f : State → State) (s : State) : update f s = .ok () (f s) := rfl

@[simp] theorem raise_apply {α : Type} (kind : Fault) (a : Word) (v : Option Byte) (s : State) :
    (raise kind a v : Exec α) s = .error (.raised kind a v) s := rfl

@[simp] theorem refuseAccess_apply {α : Type} (s : State) :
    (refuseAccess : Exec α) s = .error .refused s := rfl

@[simp] theorem Exec.look_bind {α β : Type} (f : State → α) (g : α → Exec β) (s : State) :
    (look f >>= g) s = g (f s) s := rfl

@[simp] theorem Exec.update_bind {β : Type} (f : State → State) (g : Unit → Exec β) (s : State) :
    (update f >>= g) s = g () (f s) := rfl

@[simp] theorem Exec.pure_bind_apply {α β : Type} (v : α) (g : α → Exec β) (s : State) :
    ((pure v : Exec α) >>= g) s = g v s := rfl

@[simp] theorem Exec.map_apply {α β : Type} (g : α → β) (x : Exec α) (s : State) :
    (g <$> x) s = match x s with
      | .ok v s' => .ok (g v) s'
      | .error why s' => .error why s' := by
  show EStateM.map g x s = _
  unfold EStateM.map
  cases x s <;> rfl

/-- The state a computation leaves, whether it gives a value or stops. -/
def stateOf {α : Type} : EStateM.Result Stop State α → State
  | .ok _ s => s
  | .error _ s => s

/-- A computation relates the state it starts on to the state it leaves, however it ends. -/
def Keeps (R : State → State → Prop) {α : Type} (x : Exec α) : Prop := ∀ s, R s (stateOf (x s))

section Keeps

variable {R : State → State → Prop} {α β : Type}

theorem keeps_of_read (hr : ∀ s, R s s) {x : Exec α} (h : ∀ s, stateOf (x s) = s) : Keeps R x :=
  fun s => by rw [h s]; exact hr s

theorem keeps_pure (hr : ∀ s, R s s) (v : α) : Keeps R (pure v : Exec α) := fun s => hr s

theorem keeps_look (hr : ∀ s, R s s) (f : State → α) : Keeps R (look f) := fun s => hr s

theorem keeps_update {f : State → State} (h : ∀ s, R s (f s)) : Keeps R (update f) := h

theorem keeps_bind (ht : ∀ s t u, R s t → R t u → R s u) {x : Exec α} {f : α → Exec β} (hx : Keeps R x)
    (hf : ∀ v, Keeps R (f v)) : Keeps R (x >>= f) := by
  intro s
  have h1 := hx s
  rw [Exec.bind_apply]
  cases hxs : x s with
  | ok v s' =>
    rw [hxs] at h1
    exact ht _ _ _ h1 (hf v s')
  | error why s' =>
    rw [hxs] at h1
    exact h1

end Keeps

/-! ## What an instruction's pseudocode leaves -/

theorem complete_of_ok {i : Instr} {body : Exec Nat} {s s' : State} {n : Nat} (h : body s = .ok n s') :
    complete i body s = .next (s'.addCycles n) := by simp only [complete, h]

theorem complete_of_error {i : Instr} {body : Exec Nat} {s s' : State} {why : Stop}
    (h : body s = .error why s') :
    complete i body s = .next (s'.endRun why (s.firstByteOf i) (some i.opcode)) := by
  simp only [complete, h]

/-- All that completing can do: the pseudocode ends with its cycle count, or it stops at an access. -/
theorem complete_next {i : Instr} {body : Exec Nat} {s t : State} (h : complete i body s = .next t) :
    (∃ n s', body s = .ok n s' ∧ t = s'.addCycles n) ∨
    (∃ why s', body s = .error why s' ∧ t = s'.endRun why (s.firstByteOf i) (some i.opcode)) := by
  cases hb : body s with
  | ok n s' =>
    rw [complete_of_ok hb, Host.Outcome.next.injEq] at h
    exact .inl ⟨n, s', rfl, h.symm⟩
  | error why s' =>
    rw [complete_of_error hb, Host.Outcome.next.injEq] at h
    exact .inr ⟨why, s', rfl, h.symm⟩

theorem keeps_complete {R : State → State → Prop} (ht : ∀ s t u, R s t → R t u → R s u) {body : Exec Nat}
    (hb : Keeps R body) (hc : ∀ s n, R s (State.addCycles s n))
    (he : ∀ s why pc op, R s (State.endRun s why pc op)) {i : Instr} {s t : State}
    (h : complete i body s = .next t) : R s t := by
  have h1 := hb s
  obtain ⟨n, s', hs, rfl⟩ | ⟨why, s', hs, rfl⟩ := complete_next h
  · rw [hs] at h1
    exact ht _ _ _ h1 (hc s' n)
  · rw [hs] at h1
    exact ht _ _ _ h1 (he s' why _ _)

theorem taking_of_ok {n : Nat} {body : Exec Unit} {s s' : State} (h : body s = .ok () s') :
    taking n body s = .ok n s' := by
  simp only [taking, Exec.bind_of_ok h, Exec.pure_apply]

theorem keeps_taking {R : State → State → Prop} (hr : ∀ s, R s s) (ht : ∀ s t u, R s t → R t u → R s u)
    {n : Nat} {body : Exec Unit} (h : Keeps R body) : Keeps R (taking n body) :=
  keeps_bind ht h fun _ => keeps_pure hr n

theorem branch_of_holds {cc : Cond} {n m : Nat} {body : Exec Unit} {s : State} (h : s.holds cc = true) :
    branch cc n m body s = taking n body s := by
  simp only [branch, Exec.look_bind, h, if_true]

theorem branch_of_not_holds {cc : Cond} {n m : Nat} {body : Exec Unit} {s : State}
    (h : s.holds cc = false) : branch cc n m body s = .ok m s := by
  simp [branch, h]

theorem keeps_branch {R : State → State → Prop} (hr : ∀ s, R s s) (ht : ∀ s t u, R s t → R t u → R s u)
    {cc : Cond} {n m : Nat} {body : Exec Unit} (h : Keeps R body) : Keeps R (branch cc n m body) :=
  keeps_bind ht (keeps_look hr _) fun ok => by
    cases ok
    · exact keeps_pure hr m
    · exact keeps_taking hr ht h

/-! ## A byte access -/

/-- What a byte read may change: the two fields that carry IO_PORT, and only for a forwarded address. -/
def ReadKeeps (s t : State) : Prop := t = { s with ioAnswers := t.ioAnswers, ioLog := t.ioLog }

theorem romRead_state (a : Word) (n : Nat) (s : State) : stateOf (romRead a n s) = s := by
  simp only [romRead]; split <;> rfl

theorem cramRead_state (en : Bool) (bank : Nat) (a : Word) (s : State) :
    stateOf (cramRead en bank a s) = s := by
  simp only [cramRead]; split <;> (try split) <;> rfl

theorem cram2Read_state (en : Bool) (a : Word) (s : State) : stateOf (cram2Read en a s) = s := by
  simp only [cram2Read]; split <;> rfl

theorem unspecifiedRead_state (a : Word) (s : State) : stateOf (unspecifiedRead a s) = s := by
  simp only [unspecifiedRead]; split
  · exact romRead_state _ _ _
  · rfl

theorem cartRead_state (a : Word) (s : State) : stateOf (cartRead a s) = s := by
  simp only [cartRead]
  split <;> (try split) <;>
    first
    | rfl
    | exact romRead_state _ _ _
    | exact cramRead_state _ _ _ _
    | exact cram2Read_state _ _ _
    | exact unspecifiedRead_state _ _

/-- A read at an address that is not forwarded changes nothing. -/
theorem memRead_state {a : Word} (h : regionOf a ≠ .forwarded) (s : State) :
    stateOf (memRead a s) = s := by
  simp only [memRead]
  split <;> (try split) <;>
    first
    | rfl
    | exact cartRead_state _ _
    | exact absurd ‹regionOf a = .forwarded› h

theorem memRead_forwarded {a : Word} (h : regionOf a = .forwarded) (s : State) : memRead a s = ioRead a s := by
  simp only [memRead, h]

theorem memWrite_forwarded {a : Word} (h : regionOf a = .forwarded) (v : Byte) (s : State) :
    memWrite a v s = ioWrite a v s := by simp only [memWrite, h]

theorem ioRead_keeps (a : Word) (s : State) : ReadKeeps s (stateOf (ioRead a s)) := by
  simp only [ioRead]; split <;> rfl

theorem memRead_keeps (a : Word) (s : State) : ReadKeeps s (stateOf (memRead a s)) := by
  by_cases h : regionOf a = .forwarded
  · rw [memRead_forwarded h]; exact ioRead_keeps a s
  · rw [memRead_state h]; rfl

/-- All that a read that gives a value can do. -/
theorem memRead_ok {a : Word} {s s' : State} {v : Byte} (h : memRead a s = .ok v s') : ReadKeeps s s' := by
  have := memRead_keeps a s
  rwa [h] at this

/-- A read that stops changes nothing. -/
theorem memRead_error {a : Word} {s s' : State} {why : Stop} (h : memRead a s = .error why s') : s' = s := by
  by_cases hf : regionOf a = .forwarded
  · rw [memRead_forwarded hf, ioRead] at h
    split at h <;> cases h
  · have := memRead_state hf s
    rwa [h] at this

/-- What a byte write may change: the stores other than the ROM and the boot image, the bank registers, the
boot latch and the log of forwarded accesses; never the variant. -/
def WriteKeeps (s t : State) : Prop :=
  t = { s with
    wram := t.wram, vram := t.vram, oam := t.oam, cram := t.cram, cram2 := t.cram2
    mapper := t.mapper, bootOff := t.bootOff, ioLog := t.ioLog } ∧
  Mapper.variant t.mapper = Mapper.variant s.mapper ∧ (s.bootOff = true → t.bootOff = true)

theorem WriteKeeps.refl (s : State) : WriteKeeps s s := ⟨rfl, rfl, id⟩

theorem cramWrite_keeps (en : Bool) (bank : Nat) (a : Word) (v : Byte) (s : State) :
    WriteKeeps s (stateOf (cramWrite en bank a v s)) := by
  simp only [cramWrite]; split <;> (try split) <;> exact ⟨rfl, rfl, id⟩

theorem cram2Write_keeps (en : Bool) (a : Word) (v : Byte) (s : State) :
    WriteKeeps s (stateOf (cram2Write en a v s)) := by
  simp only [cram2Write]; split <;> exact ⟨rfl, rfl, id⟩

theorem cartWrite_keeps (a : Word) (v : Byte) (s : State) : WriteKeeps s (stateOf (cartWrite a v s)) := by
  simp only [cartWrite]
  split <;> (try split) <;> (try split) <;>
    first
    | exact WriteKeeps.refl s
    | exact cramWrite_keeps _ _ _ _ _
    | exact cram2Write_keeps _ _ _ _
    | (refine ⟨rfl, ?_, id⟩; simp_all [stateOf, Mapper.variant])

theorem memWrite_keeps (a : Word) (v : Byte) (s : State) : WriteKeeps s (stateOf (memWrite a v s)) := by
  simp only [memWrite]
  split
  · exact cartWrite_keeps a v s
  · exact ⟨rfl, rfl, id⟩
  · exact cartWrite_keeps a v s
  · exact ⟨rfl, rfl, id⟩
  · exact ⟨rfl, rfl, id⟩
  · exact ⟨rfl, rfl, id⟩
  · exact WriteKeeps.refl s
  · split
    · exact ⟨rfl, rfl, fun _ => rfl⟩
    · exact WriteKeeps.refl s
  · exact ⟨rfl, rfl, id⟩

/-- All that a write that is performed can do. -/
theorem memWrite_ok {a : Word} {v : Byte} {s s' : State} (h : memWrite a v s = .ok () s') :
    WriteKeeps s s' := by
  have := memWrite_keeps a v s
  rwa [h] at this

theorem cartWrite_error {a : Word} {v : Byte} {s s' : State} {why : Stop}
    (h : cartWrite a v s = .error why s') : s' = s := by
  simp only [cartWrite, cramWrite, cram2Write, raise_apply, refuseAccess_apply] at h
  repeat' split at h
  all_goals first | (cases h; rfl) | cases h

/-- A write that stops changes nothing. -/
theorem memWrite_error {a : Word} {v : Byte} {s s' : State} {why : Stop}
    (h : memWrite a v s = .error why s') : s' = s := by
  simp only [memWrite, ioWrite, raise_apply] at h
  split at h
  all_goals first | exact cartWrite_error h | (cases h; rfl) | cases h

/-! ## The canonical form -/

theorem cramWrite_storesWf {s : State} (h : s.storesWf) (en : Bool) (bank : Nat) (a : Word) (v : Byte) :
    (stateOf (cramWrite en bank a v s)).storesWf := by
  simp only [cramWrite]
  split <;> (try split) <;> try exact h
  rename_i hlt
  exact ⟨h.1, h.2.1, h.2.2.1, h.2.2.2.1, h.2.2.2.2.1,
    ⟨Memory.wf_write h.2.2.2.2.2.1.1 _ _, Memory.within_write h.2.2.2.2.2.1.2 hlt _⟩, h.2.2.2.2.2.2⟩

theorem cram2Write_storesWf {s : State} (h : s.storesWf) (en : Bool) (a : Word) (v : Byte) :
    (stateOf (cram2Write en a v s)).storesWf := by
  simp only [cram2Write]
  split
  · exact ⟨h.1, h.2.1, h.2.2.1, h.2.2.2.1, h.2.2.2.2.1, h.2.2.2.2.2.1,
      Memory.wf_write h.2.2.2.2.2.2.1 _ _,
      Memory.within_write h.2.2.2.2.2.2.2 (by unfold cram2Index; omega) _⟩
  · exact h

theorem cartWrite_storesWf {s : State} (h : s.storesWf) (a : Word) (v : Byte) :
    (stateOf (cartWrite a v s)).storesWf := by
  simp only [cartWrite]
  split <;> (try split) <;> (try split) <;>
    first
    | exact h
    | exact cramWrite_storesWf h _ _ _ _
    | exact cram2Write_storesWf h _ _ _

/-! The bounds of the regions (20_memory.md R81). -/

theorem regionOf_cartRom (a : Word) : regionOf a = .cartRom ↔ a.toNat ≤ 0x7FFF := by
  unfold regionOf
  split_ifs <;> simp only [false_iff, true_iff] <;> omega

theorem regionOf_vram (a : Word) : regionOf a = .vram ↔ 0x8000 ≤ a.toNat ∧ a.toNat ≤ 0x9FFF := by
  unfold regionOf
  split_ifs <;> simp only [false_iff, true_iff] <;> omega

theorem regionOf_cartRam (a : Word) : regionOf a = .cartRam ↔ 0xA000 ≤ a.toNat ∧ a.toNat ≤ 0xBFFF := by
  unfold regionOf
  split_ifs <;> simp only [false_iff, true_iff] <;> omega

theorem regionOf_wram (a : Word) : regionOf a = .wram ↔ 0xC000 ≤ a.toNat ∧ a.toNat ≤ 0xDFFF := by
  unfold regionOf
  split_ifs <;> simp only [false_iff, true_iff] <;> omega

theorem regionOf_echo (a : Word) : regionOf a = .echo ↔ 0xE000 ≤ a.toNat ∧ a.toNat ≤ 0xFDFF := by
  unfold regionOf
  split_ifs <;> simp only [false_iff, true_iff] <;> omega

theorem regionOf_oam (a : Word) : regionOf a = .oam ↔ 0xFE00 ≤ a.toNat ∧ a.toNat ≤ 0xFE9F := by
  unfold regionOf
  split_ifs <;> simp only [false_iff, true_iff] <;> omega

theorem regionOf_unmapped (a : Word) : regionOf a = .unmapped ↔ 0xFEA0 ≤ a.toNat ∧ a.toNat ≤ 0xFEFF := by
  unfold regionOf
  split_ifs <;> simp only [false_iff, true_iff] <;> omega

theorem regionOf_bootStatus (a : Word) : regionOf a = .bootStatus ↔ a.toNat = 0xFF50 := by
  unfold regionOf
  split_ifs <;> simp only [false_iff, true_iff] <;> omega

theorem regionOf_forwarded (a : Word) : regionOf a = .forwarded ↔ 0xFF00 ≤ a.toNat ∧ a.toNat ≠ 0xFF50 := by
  unfold regionOf
  split_ifs <;> simp only [false_iff, true_iff] <;> omega

/-- Every memory operation keeps every store in canonical form and inside its array: a read changes no store
(memRead_keeps), and a write keeps them. -/
theorem memWrite_storesWf {s : State} (h : s.storesWf) (a : Word) (v : Byte) :
    (stateOf (memWrite a v s)).storesWf := by
  simp only [memWrite]
  split <;> rename_i hr <;>
    simp only [regionOf_cartRom, regionOf_vram, regionOf_cartRam, regionOf_wram, regionOf_echo,
      regionOf_oam, regionOf_unmapped, regionOf_bootStatus, regionOf_forwarded] at hr
  · exact cartWrite_storesWf h a v
  · exact ⟨h.1, h.2.1, ⟨Memory.wf_write h.2.2.1.1 _ _, Memory.within_write h.2.2.1.2 (by omega) _⟩,
      h.2.2.2⟩
  · exact cartWrite_storesWf h a v
  · exact ⟨h.1, h.2.1, h.2.2.1,
      ⟨Memory.wf_write h.2.2.2.1.1 _ _, Memory.within_write h.2.2.2.1.2 (by omega) _⟩, h.2.2.2.2⟩
  · exact ⟨h.1, h.2.1, h.2.2.1,
      ⟨Memory.wf_write h.2.2.2.1.1 _ _, Memory.within_write h.2.2.2.1.2 (by omega) _⟩, h.2.2.2.2⟩
  · exact ⟨h.1, h.2.1, h.2.2.1, h.2.2.2.1,
      ⟨Memory.wf_write h.2.2.2.2.1.1 _ _, Memory.within_write h.2.2.2.2.1.2 (by omega) _⟩, h.2.2.2.2.2⟩
  · exact h
  · split <;> exact h
  · exact h

theorem memRead_storesWf {s : State} (h : s.storesWf) (a : Word) : (stateOf (memRead a s)).storesWf := by
  rw [memRead_keeps a s]; exact h

theorem reset_storesWf : State.reset.storesWf := by decide

/-! ## Bytes, words and flags -/

@[simp] theorem joinBytes_high_low (w : Word) : joinBytes (highByte w) (lowByte w) = w := by
  unfold joinBytes highByte lowByte
  apply BitVec.eq_of_getLsbD_eq
  intro i hi
  simp only [BitVec.getLsbD_append, BitVec.getLsbD_extractLsb']
  by_cases h : i < 8
  · simp [h]
  · have : 8 + (i - 8) = i := by omega
    simp [h, this, show i - 8 < 8 by omega]

@[simp] theorem highByte_joinBytes (h l : Byte) : highByte (joinBytes h l) = h := by
  unfold joinBytes highByte
  apply BitVec.eq_of_getLsbD_eq
  intro i hi
  simp only [BitVec.getLsbD_extractLsb', BitVec.getLsbD_append, hi, show ¬ (8 + i < 8) by omega,
    show 8 + i - 8 = i by omega, decide_true, Bool.true_and, if_false]

@[simp] theorem lowByte_joinBytes (h l : Byte) : lowByte (joinBytes h l) = l := by
  unfold joinBytes lowByte
  apply BitVec.eq_of_getLsbD_eq
  intro i hi
  simp only [BitVec.getLsbD_extractLsb', BitVec.getLsbD_append, hi, Nat.zero_add, decide_true,
    Bool.true_and, if_true]

theorem packFlags_mask (z n h c : Bool) : packFlags z n h c &&& 0xF0#8 = packFlags z n h c := by
  cases z <;> cases n <;> cases h <;> cases c <;> decide

theorem State.setFlags_f_eq (s : State) (z n h c : Bool) : (s.setFlags z n h c).f = packFlags z n h c := by
  simp only [State.setFlags, State.setF_f, packFlags_mask]

@[simp] theorem State.flag_setFlags_zero (s : State) (z n h c : Bool) :
    (s.setFlags z n h c).flag .zero = z := by
  simp only [State.flag, State.setFlags_f_eq]
  cases z <;> cases n <;> cases h <;> cases c <;> decide

@[simp] theorem State.flag_setFlags_subtract (s : State) (z n h c : Bool) :
    (s.setFlags z n h c).flag .subtract = n := by
  simp only [State.flag, State.setFlags_f_eq]
  cases z <;> cases n <;> cases h <;> cases c <;> decide

@[simp] theorem State.flag_setFlags_halfCarry (s : State) (z n h c : Bool) :
    (s.setFlags z n h c).flag .halfCarry = h := by
  simp only [State.flag, State.setFlags_f_eq]
  cases z <;> cases n <;> cases h <;> cases c <;> decide

@[simp] theorem State.flag_setFlags_carry (s : State) (z n h c : Bool) :
    (s.setFlags z n h c).flag .carry = c := by
  simp only [State.flag, State.setFlags_f_eq]
  cases z <;> cases n <;> cases h <;> cases c <;> decide

/-- Writing flags changes F only. -/
theorem State.setFlags_eq (s : State) (z n h c : Bool) :
    s.setFlags z n h c = { s with f := packFlags z n h c } := by
  simp only [State.setFlags, State.setF, packFlags_mask]

theorem packFlags_low (z n h c : Bool) : packFlags z n h c &&& 0x0F#8 = 0x00#8 := by
  cases z <;> cases n <;> cases h <;> cases c <;> decide

end Sys2Proof.Machine
end

