-- ==== Sys2Proof/Laws/Exec.lean ====
section
/-! SUPPORT. Once, for every instruction: all that it can do. `Changes i` lists the parts of the state an
instruction's own effect may write (Safety.lean's classes); `keeps_exec` and `keeps_step` say that a relation
between states which byte accesses, the cycle count, the end of a run and those writes keep is kept by the
instruction and by a step. An invariant or a frame is an instance of them. -/

namespace Sys2Proof.Machine

/-- The parts of the state an instruction may write other than by a byte access. -/
inductive Part where
  | reg (r : Reg)
  | flags
  | sp
  | pc
  | ime
  | run
  | mark
deriving DecidableEq

/-- The unassigned bytes (30_encoding.md R195). -/
def illegalBytes : List Byte :=
  [0xD3#8, 0xDB#8, 0xDD#8, 0xE3#8, 0xE4#8, 0xEB#8, 0xEC#8, 0xED#8, 0xF4#8, 0xFC#8, 0xFD#8]

/-- Which parts an instruction may write. -/
def Changes (i : Instr) : Part → Bool
  | .reg r => decide (r ∈ destinationRegs i)
  | .flags => writesFlags i
  | .sp => changesSp i
  | .pc => transfersControl i
  | .ime => writesIme i
  | .run => decide (i.opcode = .plain 0x76#8 ∨ i.opcode = .plain 0x10#8)
  | .mark => illegalBytes.any fun op => decide (i.opcode = .plain op)

/-- A relation that a write to a part keeps. -/
def KeptBy (R : State → State → Prop) : Part → Prop
  | .reg r => ∀ s v, R s (State.setReg s r v)
  | .flags => ∀ s v, R s (State.setF s v)
  | .sp => ∀ s v, R s (State.setSp s v)
  | .pc => ∀ s v, R s (State.setPc s v)
  | .ime => ∀ (s : State) v, R s { s with ime := v }
  | .run => ∀ (s : State) v, v ≠ .running → R s { s with run := v }
  | .mark => ∀ s : State, R s { s with mark := .locked }

/-- A relation that byte accesses keep. -/
structure KeptByAccess (R : State → State → Prop) : Prop where
  refl : ∀ s, R s s
  trans : ∀ s t u, R s t → R t u → R s u
  read : ∀ a, Keeps R (memRead a)
  write : ∀ a v, Keeps R (memWrite a v)

namespace KeptByAccess

variable {R : State → State → Prop} (h : KeptByAccess R)

include h

theorem setHl (hh : KeptBy R (.reg .h)) (hl : KeptBy R (.reg .l)) (s : State) (v : Word) :
    R s (s.setHl v) :=
  h.trans _ _ _ (hh s (highByte v)) (hl _ (lowByte v))

theorem setPair (p : Pair) (hr : ∀ r ∈ pairRegs p, KeptBy R (.reg r)) (hs : p = .sp → KeptBy R .sp) (s : State)
    (v : Word) : R s (s.setPair p v) := by
  cases p
  · exact h.trans _ _ _ (hr .b (by decide) s (highByte v)) (hr .c (by decide) _ (lowByte v))
  · exact h.trans _ _ _ (hr .d (by decide) s (highByte v)) (hr .e (by decide) _ (lowByte v))
  · exact h.setHl (hr .h (by decide)) (hr .l (by decide)) s v
  · exact hs rfl s v

theorem fetch8 (hp : KeptBy R .pc) : Keeps R fetch8 :=
  keeps_bind h.trans (keeps_look h.refl _) fun _ =>
    keeps_bind h.trans (h.read _) fun _ =>
      keeps_bind h.trans (keeps_update fun s => hp s _) fun _ => keeps_pure h.refl _

theorem fetchRest (hp : KeptBy R .pc) (op : Byte) : Keeps R (fetchRest op) := by
  unfold Machine.fetchRest
  split
  · exact keeps_pure h.refl _
  · exact keeps_bind h.trans (h.fetch8 hp) fun _ => keeps_pure h.refl _
  · exact keeps_bind h.trans
      (keeps_bind h.trans (h.fetch8 hp) fun _ => keeps_bind h.trans (h.fetch8 hp) fun _ => keeps_pure h.refl _)
      fun _ => keeps_pure h.refl _
  · exact keeps_bind h.trans (h.fetch8 hp) fun _ => keeps_pure h.refl _

theorem pushByte (hs : KeptBy R .sp) (v : Byte) : Keeps R (pushByte v) :=
  keeps_bind h.trans (keeps_update fun s => hs s _) fun _ =>
    keeps_bind h.trans (keeps_look h.refl _) fun _ => h.write _ _

theorem push16 (hs : KeptBy R .sp) (v : Word) : Keeps R (push16 v) :=
  keeps_bind h.trans (h.pushByte hs _) fun _ => h.pushByte hs _

theorem popByte (hs : KeptBy R .sp) : Keeps R popByte :=
  keeps_bind h.trans (keeps_look h.refl _) fun _ =>
    keeps_bind h.trans (h.read _) fun _ =>
      keeps_bind h.trans (keeps_update fun s => hs s _) fun _ => keeps_pure h.refl _

theorem pop16 (hs : KeptBy R .sp) : Keeps R pop16 :=
  keeps_bind h.trans (h.popByte hs) fun _ =>
    keeps_bind h.trans (h.popByte hs) fun _ => keeps_pure h.refl _

theorem readOperand (o : Operand) : Keeps R (readOperand o) := by
  cases o with
  | reg r => exact keeps_look h.refl _
  | memHl => exact keeps_bind h.trans (keeps_look h.refl _) fun _ => h.read _

theorem writeOperand (o : Operand) (ho : ∀ r ∈ operandRegs o, KeptBy R (.reg r)) (v : Byte) :
    Keeps R (writeOperand o v) := by
  cases o with
  | reg r => exact keeps_update fun s => ho r (by simp [operandRegs]) s v
  | memHl => exact keeps_bind h.trans (keeps_look h.refl _) fun _ => h.write _ _

/-! ### Loads -/

omit h in
theorem copyReg {dst : Reg} (hd : KeptBy R (.reg dst)) (src : Reg) : Keeps R (copyReg dst src) :=
  keeps_update fun s => hd s _

omit h in
theorem loadImm {r : Reg} (hr : KeptBy R (.reg r)) (v : Byte) : Keeps R (loadImm r v) :=
  keeps_update fun s => hr s _

theorem loadFrom {r : Reg} (hr : KeptBy R (.reg r)) (f : State → Word) : Keeps R (loadFrom r f) :=
  keeps_bind h.trans (keeps_look h.refl _) fun _ =>
    keeps_bind h.trans (h.read _) fun _ => keeps_update fun s => hr s _

theorem storeTo (f : State → Word) (g : State → Byte) : Keeps R (storeTo f g) :=
  keeps_bind h.trans (keeps_look h.refl _) fun _ =>
    keeps_bind h.trans (keeps_look h.refl _) fun _ => h.write _ _

theorem stepHl (hh : KeptBy R (.reg .h)) (hl : KeptBy R (.reg .l)) (d : Word) : Keeps R (stepHl d) :=
  keeps_update fun s => h.setHl hh hl s _

theorem loadStep (ha : KeptBy R (.reg .a)) (hh : KeptBy R (.reg .h)) (hl : KeptBy R (.reg .l)) (d : Word) :
    Keeps R (loadStep d) :=
  keeps_bind h.trans (h.loadFrom ha _) fun _ => h.stepHl hh hl d

theorem storeStep (hh : KeptBy R (.reg .h)) (hl : KeptBy R (.reg .l)) (d : Word) : Keeps R (storeStep d) :=
  keeps_bind h.trans (h.storeTo _ _) fun _ => h.stepHl hh hl d

theorem loadPair (p : Pair) (hr : ∀ r ∈ pairRegs p, KeptBy R (.reg r)) (hs : p = .sp → KeptBy R .sp)
    (v : Word) : Keeps R (loadPair p v) :=
  keeps_update fun s => h.setPair p hr hs s v

theorem storeSp (a : Word) : Keeps R (storeSp a) :=
  keeps_bind h.trans (keeps_look h.refl _) fun _ =>
    keeps_bind h.trans (h.write _ _) fun _ => h.write _ _

omit h in
theorem loadSpHl (hs : KeptBy R .sp) : Keeps R loadSpHl := keeps_update fun s => hs s _

theorem pushPair (hs : KeptBy R .sp) (p : StackPair) : Keeps R (pushPair p) :=
  keeps_bind h.trans (keeps_look h.refl _) fun _ => h.push16 hs _

theorem popPair {p : Pair} {q : StackPair} (hq : ∀ s v, State.setStackPair s q v = State.setPair s p v)
    (hp : p ≠ .sp) (hs : KeptBy R .sp) (hr : ∀ r ∈ pairRegs p, KeptBy R (.reg r)) : Keeps R (popPair q) :=
  keeps_bind h.trans (h.pop16 hs) fun v =>
    keeps_update fun s => by
      rw [hq]
      exact h.setPair p hr (fun e => absurd e hp) s v

theorem popAf (hs : KeptBy R .sp) (ha : KeptBy R (.reg .a)) (hf : KeptBy R .flags) : Keeps R (Machine.popPair .af) :=
  keeps_bind h.trans (h.pop16 hs) fun v =>
    keeps_update fun s => h.trans _ _ _ (ha s (highByte v)) (hf _ (lowByte v))

/-! ### Arithmetic and logic -/

theorem alu (op : AluOp) (ha : op ≠ .cp → KeptBy R (.reg .a)) (hf : KeptBy R .flags) (s : State) (v : Byte) :
    R s (s.alu op v) := by
  cases op <;> first
    | exact h.trans _ _ _ (ha (by decide) s _) (hf _ _)
    | exact hf s _

theorem aluWith (op : AluOp) (ha : op ≠ .cp → KeptBy R (.reg .a)) (hf : KeptBy R .flags) (o : Operand) :
    Keeps R (aluWith op o) :=
  keeps_bind h.trans (h.readOperand o) fun v => keeps_update fun s => h.alu op ha hf s v

theorem aluImm (op : AluOp) (ha : op ≠ .cp → KeptBy R (.reg .a)) (hf : KeptBy R .flags) (v : Byte) :
    Keeps R (aluImm op v) :=
  keeps_update fun s => h.alu op ha hf s v

theorem incOperand (o : Operand) (ho : ∀ r ∈ operandRegs o, KeptBy R (.reg r)) (hf : KeptBy R .flags) :
    Keeps R (incOperand o) :=
  keeps_bind h.trans (h.readOperand o) fun _ =>
    keeps_bind h.trans (h.writeOperand o ho _) fun _ => keeps_update fun s => hf s _

theorem decOperand (o : Operand) (ho : ∀ r ∈ operandRegs o, KeptBy R (.reg r)) (hf : KeptBy R .flags) :
    Keeps R (decOperand o) :=
  keeps_bind h.trans (h.readOperand o) fun _ =>
    keeps_bind h.trans (h.writeOperand o ho _) fun _ => keeps_update fun s => hf s _

theorem decimalAdjust (ha : KeptBy R (.reg .a)) (hf : KeptBy R .flags) : Keeps R decimalAdjust :=
  keeps_update fun s => h.trans _ _ _ (ha s _) (hf _ _)

theorem complementA (ha : KeptBy R (.reg .a)) (hf : KeptBy R .flags) : Keeps R complementA :=
  keeps_update fun s => h.trans _ _ _ (ha s _) (hf _ _)

omit h in
theorem setCarry (hf : KeptBy R .flags) : Keeps R setCarry := keeps_update fun s => hf s _

omit h in
theorem complementCarry (hf : KeptBy R .flags) : Keeps R complementCarry := keeps_update fun s => hf s _

theorem addHl (p : Pair) (hh : KeptBy R (.reg .h)) (hl : KeptBy R (.reg .l)) (hf : KeptBy R .flags) :
    Keeps R (addHl p) :=
  keeps_update fun s => h.trans _ _ _ (h.setHl hh hl s _) (hf _ _)

theorem incPair (p : Pair) (hr : ∀ r ∈ pairRegs p, KeptBy R (.reg r)) (hs : p = .sp → KeptBy R .sp) :
    Keeps R (incPair p) :=
  keeps_update fun s => h.setPair p hr hs s _

theorem decPair (p : Pair) (hr : ∀ r ∈ pairRegs p, KeptBy R (.reg r)) (hs : p = .sp → KeptBy R .sp) :
    Keeps R (decPair p) :=
  keeps_update fun s => h.setPair p hr hs s _

theorem addSp (hs : KeptBy R .sp) (hf : KeptBy R .flags) (e : Byte) : Keeps R (addSp e) :=
  keeps_update fun s => h.trans _ _ _ (hs s _) (hf _ _)

theorem loadHlSp (hh : KeptBy R (.reg .h)) (hl : KeptBy R (.reg .l)) (hf : KeptBy R .flags) (e : Byte) :
    Keeps R (loadHlSp e) :=
  keeps_update fun s => h.trans _ _ _ (h.setHl hh hl s _) (hf _ _)

/-! ### Rotates, shifts and bits -/

theorem accRotate (op : RotOp) (ha : KeptBy R (.reg .a)) (hf : KeptBy R .flags) : Keeps R (accRotate op) :=
  keeps_update fun s => h.trans _ _ _ (ha s _) (hf _ _)

theorem rotateOperand (op : RotOp) (o : Operand) (ho : ∀ r ∈ operandRegs o, KeptBy R (.reg r))
    (hf : KeptBy R .flags) : Keeps R (rotateOperand op o) :=
  keeps_bind h.trans (h.readOperand o) fun _ =>
    keeps_bind h.trans (keeps_look h.refl _) fun _ =>
      keeps_bind h.trans (h.writeOperand o ho _) fun _ => keeps_update fun s => hf s _

theorem testBit (b : Octal) (o : Operand) (hf : KeptBy R .flags) : Keeps R (testBit b o) :=
  keeps_bind h.trans (h.readOperand o) fun _ => keeps_update fun s => hf s _

theorem resetBit (b : Octal) (o : Operand) (ho : ∀ r ∈ operandRegs o, KeptBy R (.reg r)) :
    Keeps R (resetBit b o) :=
  keeps_bind h.trans (h.readOperand o) fun _ => h.writeOperand o ho _

theorem setBit (b : Octal) (o : Operand) (ho : ∀ r ∈ operandRegs o, KeptBy R (.reg r)) :
    Keeps R (setBit b o) :=
  keeps_bind h.trans (h.readOperand o) fun _ => h.writeOperand o ho _

/-! ### Control transfer and system -/

omit h in
theorem jump (hp : KeptBy R .pc) (a : Word) : Keeps R (jump a) := keeps_update fun s => hp s _

omit h in
theorem jumpHl (hp : KeptBy R .pc) : Keeps R jumpHl := keeps_update fun s => hp s _

omit h in
theorem jumpRel (hp : KeptBy R .pc) (e : Byte) : Keeps R (jumpRel e) := keeps_update fun s => hp s _

theorem call (hs : KeptBy R .sp) (hp : KeptBy R .pc) (a : Word) : Keeps R (call a) :=
  keeps_bind h.trans (keeps_look h.refl _) fun _ =>
    keeps_bind h.trans (h.push16 hs _) fun _ => jump hp a

theorem return16 (hs : KeptBy R .sp) (hp : KeptBy R .pc) : Keeps R return16 :=
  keeps_bind h.trans (h.pop16 hs) fun _ => jump hp _

theorem returnEnable (hs : KeptBy R .sp) (hp : KeptBy R .pc) (hi : KeptBy R .ime) : Keeps R returnEnable :=
  keeps_bind h.trans (h.return16 hs hp) fun _ => keeps_update fun s => hi s true

theorem restart (hs : KeptBy R .sp) (hp : KeptBy R .pc) (t : Octal) : Keeps R (restart t) := h.call hs hp _

omit h in
theorem haltCore (hr : KeptBy R .run) : Keeps R haltCore := keeps_update fun s => hr s .halted (by decide)

omit h in
theorem stopCore (hr : KeptBy R .run) : Keeps R stopCore := keeps_update fun s => hr s .stopped (by decide)

omit h in
theorem writeIme (hi : KeptBy R .ime) (v : Bool) : Keeps R (writeIme v) := keeps_update fun s => hi s v

theorem illegalOpcode (hm : KeptBy R .mark) : Keeps R illegalOpcode :=
  keeps_update fun s => by
    split
    · exact h.refl s
    · exact hm s

end KeptByAccess

/-! ## Every instruction -/

section Exec

variable {R : State → State → Prop}

theorem operand_regs {r : Reg} (hr : KeptBy R (.reg r)) : ∀ q ∈ operandRegs (.reg r), KeptBy R (.reg q) := by
  intro q hq
  rw [List.mem_singleton.mp hq]
  exact hr

theorem memHl_regs : ∀ q ∈ operandRegs .memHl, KeptBy R (.reg q) := by
  intro q hq
  cases hq

theorem pair_regs {x y : Reg} (hx : KeptBy R (.reg x)) (hy : KeptBy R (.reg y)) :
    ∀ q ∈ [x, y], KeptBy R (.reg q) := by
  intro q hq
  rcases List.mem_cons.mp hq with rfl | hq
  · exact hx
  · rw [List.mem_singleton.mp hq]
    exact hy

theorem sp_regs : ∀ q ∈ pairRegs .sp, KeptBy R (.reg q) := by
  intro q hq
  cases hq

theorem KeptByAccess.extendedBody (h : KeptByAccess R) (cb : Byte)
    (hk : ∀ p, Changes (.prefixCb cb) p = true → KeptBy R p) : Keeps R (extendedBody cb) := by
  have hflags : (fieldX cb).toNat ≤ 1 → KeptBy R .flags := fun hx =>
    hk .flags (by
      show decide ((fieldX cb).toNat ≤ 1) = true
      exact decide_eq_true hx)
  have hregs : (fieldX cb).toNat ≠ 1 → ∀ r ∈ operandRegs (Operand.ofCode (fieldZ cb)), KeptBy R (.reg r) :=
    fun hx r hr => hk (.reg r) (by
      show decide (r ∈ if (fieldX cb).toNat = 1 then [] else operandRegs (Operand.ofCode (fieldZ cb))) = true
      rw [if_neg hx]
      exact decide_eq_true hr)
  refine keeps_taking h.refl h.trans ?_
  split
  · rename_i hx
    exact h.rotateOperand _ _ (hregs (by omega)) (hflags (by omega))
  · rename_i hx
    exact h.testBit _ _ (hflags (by omega))
  · rename_i hx
    exact h.resetBit _ _ (hregs (by omega))
  · rename_i h0 h1 h2
    exact h.setBit _ _ (hregs h1)

/-- All that an instruction can do: byte accesses, writes to the parts it may change, its cycle count, the end
of the run. -/
theorem keeps_exec (h : KeptByAccess R) (hc : ∀ s n, R s (State.addCycles s n))
    (he : ∀ s why pc op, R s (State.endRun s why pc op)) (i : Instr)
    (hk : ∀ p, Changes i p = true → KeptBy R p) {s t : State} (hx : exec i s = .next t) : R s t := by
  cases i with
  | ldBcD16 v => exact keeps_complete (i := .ldBcD16 v) h.trans (keeps_taking h.refl h.trans (h.loadPair .bc (pair_regs (hk (.reg .b) rfl) (hk (.reg .c) rfl)) (fun e => absurd e (by decide)) _)) hc he hx
  | ldBD8 n => exact keeps_complete (i := .ldBD8 n) h.trans (keeps_taking h.refl h.trans (KeptByAccess.loadImm (hk (.reg .b) rfl) _)) hc he hx
  | ldMemA16Sp addr => exact keeps_complete (i := .ldMemA16Sp addr) h.trans (keeps_taking h.refl h.trans (h.storeSp _)) hc he hx
  | ldCD8 n => exact keeps_complete (i := .ldCD8 n) h.trans (keeps_taking h.refl h.trans (KeptByAccess.loadImm (hk (.reg .c) rfl) _)) hc he hx
  | stop ignored => exact keeps_complete (i := .stop ignored) h.trans (keeps_taking h.refl h.trans (KeptByAccess.stopCore (hk .run rfl))) hc he hx
  | ldDeD16 v => exact keeps_complete (i := .ldDeD16 v) h.trans (keeps_taking h.refl h.trans (h.loadPair .de (pair_regs (hk (.reg .d) rfl) (hk (.reg .e) rfl)) (fun e => absurd e (by decide)) _)) hc he hx
  | ldDD8 n => exact keeps_complete (i := .ldDD8 n) h.trans (keeps_taking h.refl h.trans (KeptByAccess.loadImm (hk (.reg .d) rfl) _)) hc he hx
  | jrE8 e => exact keeps_complete (i := .jrE8 e) h.trans (keeps_taking h.refl h.trans (KeptByAccess.jumpRel (hk .pc rfl) _)) hc he hx
  | ldED8 n => exact keeps_complete (i := .ldED8 n) h.trans (keeps_taking h.refl h.trans (KeptByAccess.loadImm (hk (.reg .e) rfl) _)) hc he hx
  | jrNzE8 e => exact keeps_complete (i := .jrNzE8 e) h.trans (keeps_branch h.refl h.trans (KeptByAccess.jumpRel (hk .pc rfl) _)) hc he hx
  | ldHlD16 v => exact keeps_complete (i := .ldHlD16 v) h.trans (keeps_taking h.refl h.trans (h.loadPair .hl (pair_regs (hk (.reg .h) rfl) (hk (.reg .l) rfl)) (fun e => absurd e (by decide)) _)) hc he hx
  | ldHD8 n => exact keeps_complete (i := .ldHD8 n) h.trans (keeps_taking h.refl h.trans (KeptByAccess.loadImm (hk (.reg .h) rfl) _)) hc he hx
  | jrZE8 e => exact keeps_complete (i := .jrZE8 e) h.trans (keeps_branch h.refl h.trans (KeptByAccess.jumpRel (hk .pc rfl) _)) hc he hx
  | ldLD8 n => exact keeps_complete (i := .ldLD8 n) h.trans (keeps_taking h.refl h.trans (KeptByAccess.loadImm (hk (.reg .l) rfl) _)) hc he hx
  | jrNcE8 e => exact keeps_complete (i := .jrNcE8 e) h.trans (keeps_branch h.refl h.trans (KeptByAccess.jumpRel (hk .pc rfl) _)) hc he hx
  | ldSpD16 v => exact keeps_complete (i := .ldSpD16 v) h.trans (keeps_taking h.refl h.trans (h.loadPair .sp sp_regs (fun _ => (hk .sp rfl)) _)) hc he hx
  | ldMemHlD8 n => exact keeps_complete (i := .ldMemHlD8 n) h.trans (keeps_taking h.refl h.trans (h.storeTo _ _)) hc he hx
  | jrCE8 e => exact keeps_complete (i := .jrCE8 e) h.trans (keeps_branch h.refl h.trans (KeptByAccess.jumpRel (hk .pc rfl) _)) hc he hx
  | ldAD8 n => exact keeps_complete (i := .ldAD8 n) h.trans (keeps_taking h.refl h.trans (KeptByAccess.loadImm (hk (.reg .a) rfl) _)) hc he hx
  | jpNzA16 addr => exact keeps_complete (i := .jpNzA16 addr) h.trans (keeps_branch h.refl h.trans (KeptByAccess.jump (hk .pc rfl) _)) hc he hx
  | jpA16 addr => exact keeps_complete (i := .jpA16 addr) h.trans (keeps_taking h.refl h.trans (KeptByAccess.jump (hk .pc rfl) _)) hc he hx
  | callNzA16 addr => exact keeps_complete (i := .callNzA16 addr) h.trans (keeps_branch h.refl h.trans (h.call (hk .sp rfl) (hk .pc rfl) _)) hc he hx
  | addAD8 n => exact keeps_complete (i := .addAD8 n) h.trans (keeps_taking h.refl h.trans (h.aluImm .add (fun _ => (hk (.reg .a) rfl)) (hk .flags rfl) _)) hc he hx
  | jpZA16 addr => exact keeps_complete (i := .jpZA16 addr) h.trans (keeps_branch h.refl h.trans (KeptByAccess.jump (hk .pc rfl) _)) hc he hx
  | prefixCb cb => exact keeps_complete (i := .prefixCb cb) h.trans (h.extendedBody cb hk) hc he hx
  | callZA16 addr => exact keeps_complete (i := .callZA16 addr) h.trans (keeps_branch h.refl h.trans (h.call (hk .sp rfl) (hk .pc rfl) _)) hc he hx
  | callA16 addr => exact keeps_complete (i := .callA16 addr) h.trans (keeps_taking h.refl h.trans (h.call (hk .sp rfl) (hk .pc rfl) _)) hc he hx
  | adcAD8 n => exact keeps_complete (i := .adcAD8 n) h.trans (keeps_taking h.refl h.trans (h.aluImm .adc (fun _ => (hk (.reg .a) rfl)) (hk .flags rfl) _)) hc he hx
  | jpNcA16 addr => exact keeps_complete (i := .jpNcA16 addr) h.trans (keeps_branch h.refl h.trans (KeptByAccess.jump (hk .pc rfl) _)) hc he hx
  | callNcA16 addr => exact keeps_complete (i := .callNcA16 addr) h.trans (keeps_branch h.refl h.trans (h.call (hk .sp rfl) (hk .pc rfl) _)) hc he hx
  | subD8 n => exact keeps_complete (i := .subD8 n) h.trans (keeps_taking h.refl h.trans (h.aluImm .sub (fun _ => (hk (.reg .a) rfl)) (hk .flags rfl) _)) hc he hx
  | jpCA16 addr => exact keeps_complete (i := .jpCA16 addr) h.trans (keeps_branch h.refl h.trans (KeptByAccess.jump (hk .pc rfl) _)) hc he hx
  | callCA16 addr => exact keeps_complete (i := .callCA16 addr) h.trans (keeps_branch h.refl h.trans (h.call (hk .sp rfl) (hk .pc rfl) _)) hc he hx
  | sbcAD8 n => exact keeps_complete (i := .sbcAD8 n) h.trans (keeps_taking h.refl h.trans (h.aluImm .sbc (fun _ => (hk (.reg .a) rfl)) (hk .flags rfl) _)) hc he hx
  | ldhMemA8A n => exact keeps_complete (i := .ldhMemA8A n) h.trans (keeps_taking h.refl h.trans (h.storeTo _ _)) hc he hx
  | andD8 n => exact keeps_complete (i := .andD8 n) h.trans (keeps_taking h.refl h.trans (h.aluImm .and (fun _ => (hk (.reg .a) rfl)) (hk .flags rfl) _)) hc he hx
  | addSpE8 e => exact keeps_complete (i := .addSpE8 e) h.trans (keeps_taking h.refl h.trans (h.addSp (hk .sp rfl) (hk .flags rfl) _)) hc he hx
  | ldMemA16A addr => exact keeps_complete (i := .ldMemA16A addr) h.trans (keeps_taking h.refl h.trans (h.storeTo _ _)) hc he hx
  | xorD8 n => exact keeps_complete (i := .xorD8 n) h.trans (keeps_taking h.refl h.trans (h.aluImm .xor (fun _ => (hk (.reg .a) rfl)) (hk .flags rfl) _)) hc he hx
  | ldhAMemA8 n => exact keeps_complete (i := .ldhAMemA8 n) h.trans (keeps_taking h.refl h.trans (h.loadFrom (hk (.reg .a) rfl) _)) hc he hx
  | orD8 n => exact keeps_complete (i := .orD8 n) h.trans (keeps_taking h.refl h.trans (h.aluImm .or (fun _ => (hk (.reg .a) rfl)) (hk .flags rfl) _)) hc he hx
  | ldHlSpE8 e => exact keeps_complete (i := .ldHlSpE8 e) h.trans (keeps_taking h.refl h.trans (h.loadHlSp (hk (.reg .h) rfl) (hk (.reg .l) rfl) (hk .flags rfl) _)) hc he hx
  | ldAMemA16 addr => exact keeps_complete (i := .ldAMemA16 addr) h.trans (keeps_taking h.refl h.trans (h.loadFrom (hk (.reg .a) rfl) _)) hc he hx
  | cpD8 n => exact keeps_complete (i := .cpD8 n) h.trans (keeps_taking h.refl h.trans (h.aluImm .cp (fun e => absurd rfl e) (hk .flags rfl) _)) hc he hx
  | nop => exact keeps_complete (i := .nop) h.trans (keeps_taking h.refl h.trans (keeps_pure h.refl ())) hc he hx
  | ldMemBcA => exact keeps_complete (i := .ldMemBcA) h.trans (keeps_taking h.refl h.trans (h.storeTo _ _)) hc he hx
  | incBc => exact keeps_complete (i := .incBc) h.trans (keeps_taking h.refl h.trans (h.incPair .bc (pair_regs (hk (.reg .b) rfl) (hk (.reg .c) rfl)) (fun e => absurd e (by decide)))) hc he hx
  | incB => exact keeps_complete (i := .incB) h.trans (keeps_taking h.refl h.trans (h.incOperand (.reg .b) (operand_regs (hk (.reg .b) rfl)) (hk .flags rfl))) hc he hx
  | decB => exact keeps_complete (i := .decB) h.trans (keeps_taking h.refl h.trans (h.decOperand (.reg .b) (operand_regs (hk (.reg .b) rfl)) (hk .flags rfl))) hc he hx
  | rlca => exact keeps_complete (i := .rlca) h.trans (keeps_taking h.refl h.trans (h.accRotate .rlc (hk (.reg .a) rfl) (hk .flags rfl))) hc he hx
  | addHlBc => exact keeps_complete (i := .addHlBc) h.trans (keeps_taking h.refl h.trans (h.addHl .bc (hk (.reg .h) rfl) (hk (.reg .l) rfl) (hk .flags rfl))) hc he hx
  | ldAMemBc => exact keeps_complete (i := .ldAMemBc) h.trans (keeps_taking h.refl h.trans (h.loadFrom (hk (.reg .a) rfl) _)) hc he hx
  | decBc => exact keeps_complete (i := .decBc) h.trans (keeps_taking h.refl h.trans (h.decPair .bc (pair_regs (hk (.reg .b) rfl) (hk (.reg .c) rfl)) (fun e => absurd e (by decide)))) hc he hx
  | incC => exact keeps_complete (i := .incC) h.trans (keeps_taking h.refl h.trans (h.incOperand (.reg .c) (operand_regs (hk (.reg .c) rfl)) (hk .flags rfl))) hc he hx
  | decC => exact keeps_complete (i := .decC) h.trans (keeps_taking h.refl h.trans (h.decOperand (.reg .c) (operand_regs (hk (.reg .c) rfl)) (hk .flags rfl))) hc he hx
  | rrca => exact keeps_complete (i := .rrca) h.trans (keeps_taking h.refl h.trans (h.accRotate .rrc (hk (.reg .a) rfl) (hk .flags rfl))) hc he hx
  | ldMemDeA => exact keeps_complete (i := .ldMemDeA) h.trans (keeps_taking h.refl h.trans (h.storeTo _ _)) hc he hx
  | incDe => exact keeps_complete (i := .incDe) h.trans (keeps_taking h.refl h.trans (h.incPair .de (pair_regs (hk (.reg .d) rfl) (hk (.reg .e) rfl)) (fun e => absurd e (by decide)))) hc he hx
  | incD => exact keeps_complete (i := .incD) h.trans (keeps_taking h.refl h.trans (h.incOperand (.reg .d) (operand_regs (hk (.reg .d) rfl)) (hk .flags rfl))) hc he hx
  | decD => exact keeps_complete (i := .decD) h.trans (keeps_taking h.refl h.trans (h.decOperand (.reg .d) (operand_regs (hk (.reg .d) rfl)) (hk .flags rfl))) hc he hx
  | rla => exact keeps_complete (i := .rla) h.trans (keeps_taking h.refl h.trans (h.accRotate .rl (hk (.reg .a) rfl) (hk .flags rfl))) hc he hx
  | addHlDe => exact keeps_complete (i := .addHlDe) h.trans (keeps_taking h.refl h.trans (h.addHl .de (hk (.reg .h) rfl) (hk (.reg .l) rfl) (hk .flags rfl))) hc he hx
  | ldAMemDe => exact keeps_complete (i := .ldAMemDe) h.trans (keeps_taking h.refl h.trans (h.loadFrom (hk (.reg .a) rfl) _)) hc he hx
  | decDe => exact keeps_complete (i := .decDe) h.trans (keeps_taking h.refl h.trans (h.decPair .de (pair_regs (hk (.reg .d) rfl) (hk (.reg .e) rfl)) (fun e => absurd e (by decide)))) hc he hx
  | incE => exact keeps_complete (i := .incE) h.trans (keeps_taking h.refl h.trans (h.incOperand (.reg .e) (operand_regs (hk (.reg .e) rfl)) (hk .flags rfl))) hc he hx
  | decE => exact keeps_complete (i := .decE) h.trans (keeps_taking h.refl h.trans (h.decOperand (.reg .e) (operand_regs (hk (.reg .e) rfl)) (hk .flags rfl))) hc he hx
  | rra => exact keeps_complete (i := .rra) h.trans (keeps_taking h.refl h.trans (h.accRotate .rr (hk (.reg .a) rfl) (hk .flags rfl))) hc he hx
  | ldMemHlIncA => exact keeps_complete (i := .ldMemHlIncA) h.trans (keeps_taking h.refl h.trans (h.storeStep (hk (.reg .h) rfl) (hk (.reg .l) rfl) _)) hc he hx
  | incHl => exact keeps_complete (i := .incHl) h.trans (keeps_taking h.refl h.trans (h.incPair .hl (pair_regs (hk (.reg .h) rfl) (hk (.reg .l) rfl)) (fun e => absurd e (by decide)))) hc he hx
  | incH => exact keeps_complete (i := .incH) h.trans (keeps_taking h.refl h.trans (h.incOperand (.reg .h) (operand_regs (hk (.reg .h) rfl)) (hk .flags rfl))) hc he hx
  | decH => exact keeps_complete (i := .decH) h.trans (keeps_taking h.refl h.trans (h.decOperand (.reg .h) (operand_regs (hk (.reg .h) rfl)) (hk .flags rfl))) hc he hx
  | daa => exact keeps_complete (i := .daa) h.trans (keeps_taking h.refl h.trans (h.decimalAdjust (hk (.reg .a) rfl) (hk .flags rfl))) hc he hx
  | addHlHl => exact keeps_complete (i := .addHlHl) h.trans (keeps_taking h.refl h.trans (h.addHl .hl (hk (.reg .h) rfl) (hk (.reg .l) rfl) (hk .flags rfl))) hc he hx
  | ldAMemHlInc => exact keeps_complete (i := .ldAMemHlInc) h.trans (keeps_taking h.refl h.trans (h.loadStep (hk (.reg .a) rfl) (hk (.reg .h) rfl) (hk (.reg .l) rfl) _)) hc he hx
  | decHl => exact keeps_complete (i := .decHl) h.trans (keeps_taking h.refl h.trans (h.decPair .hl (pair_regs (hk (.reg .h) rfl) (hk (.reg .l) rfl)) (fun e => absurd e (by decide)))) hc he hx
  | incL => exact keeps_complete (i := .incL) h.trans (keeps_taking h.refl h.trans (h.incOperand (.reg .l) (operand_regs (hk (.reg .l) rfl)) (hk .flags rfl))) hc he hx
  | decL => exact keeps_complete (i := .decL) h.trans (keeps_taking h.refl h.trans (h.decOperand (.reg .l) (operand_regs (hk (.reg .l) rfl)) (hk .flags rfl))) hc he hx
  | cpl => exact keeps_complete (i := .cpl) h.trans (keeps_taking h.refl h.trans (h.complementA (hk (.reg .a) rfl) (hk .flags rfl))) hc he hx
  | ldMemHlDecA => exact keeps_complete (i := .ldMemHlDecA) h.trans (keeps_taking h.refl h.trans (h.storeStep (hk (.reg .h) rfl) (hk (.reg .l) rfl) _)) hc he hx
  | incSp => exact keeps_complete (i := .incSp) h.trans (keeps_taking h.refl h.trans (h.incPair .sp sp_regs (fun _ => (hk .sp rfl)))) hc he hx
  | incMemHl => exact keeps_complete (i := .incMemHl) h.trans (keeps_taking h.refl h.trans (h.incOperand .memHl memHl_regs (hk .flags rfl))) hc he hx
  | decMemHl => exact keeps_complete (i := .decMemHl) h.trans (keeps_taking h.refl h.trans (h.decOperand .memHl memHl_regs (hk .flags rfl))) hc he hx
  | scf => exact keeps_complete (i := .scf) h.trans (keeps_taking h.refl h.trans (KeptByAccess.setCarry (hk .flags rfl))) hc he hx
  | addHlSp => exact keeps_complete (i := .addHlSp) h.trans (keeps_taking h.refl h.trans (h.addHl .sp (hk (.reg .h) rfl) (hk (.reg .l) rfl) (hk .flags rfl))) hc he hx
  | ldAMemHlDec => exact keeps_complete (i := .ldAMemHlDec) h.trans (keeps_taking h.refl h.trans (h.loadStep (hk (.reg .a) rfl) (hk (.reg .h) rfl) (hk (.reg .l) rfl) _)) hc he hx
  | decSp => exact keeps_complete (i := .decSp) h.trans (keeps_taking h.refl h.trans (h.decPair .sp sp_regs (fun _ => (hk .sp rfl)))) hc he hx
  | incA => exact keeps_complete (i := .incA) h.trans (keeps_taking h.refl h.trans (h.incOperand (.reg .a) (operand_regs (hk (.reg .a) rfl)) (hk .flags rfl))) hc he hx
  | decA => exact keeps_complete (i := .decA) h.trans (keeps_taking h.refl h.trans (h.decOperand (.reg .a) (operand_regs (hk (.reg .a) rfl)) (hk .flags rfl))) hc he hx
  | ccf => exact keeps_complete (i := .ccf) h.trans (keeps_taking h.refl h.trans (KeptByAccess.complementCarry (hk .flags rfl))) hc he hx
  | ldBB => exact keeps_complete (i := .ldBB) h.trans (keeps_taking h.refl h.trans (KeptByAccess.copyReg (hk (.reg .b) rfl) _)) hc he hx
  | ldBC => exact keeps_complete (i := .ldBC) h.trans (keeps_taking h.refl h.trans (KeptByAccess.copyReg (hk (.reg .b) rfl) _)) hc he hx
  | ldBD => exact keeps_complete (i := .ldBD) h.trans (keeps_taking h.refl h.trans (KeptByAccess.copyReg (hk (.reg .b) rfl) _)) hc he hx
  | ldBE => exact keeps_complete (i := .ldBE) h.trans (keeps_taking h.refl h.trans (KeptByAccess.copyReg (hk (.reg .b) rfl) _)) hc he hx
  | ldBH => exact keeps_complete (i := .ldBH) h.trans (keeps_taking h.refl h.trans (KeptByAccess.copyReg (hk (.reg .b) rfl) _)) hc he hx
  | ldBL => exact keeps_complete (i := .ldBL) h.trans (keeps_taking h.refl h.trans (KeptByAccess.copyReg (hk (.reg .b) rfl) _)) hc he hx
  | ldBMemHl => exact keeps_complete (i := .ldBMemHl) h.trans (keeps_taking h.refl h.trans (h.loadFrom (hk (.reg .b) rfl) _)) hc he hx
  | ldBA => exact keeps_complete (i := .ldBA) h.trans (keeps_taking h.refl h.trans (KeptByAccess.copyReg (hk (.reg .b) rfl) _)) hc he hx
  | ldCB => exact keeps_complete (i := .ldCB) h.trans (keeps_taking h.refl h.trans (KeptByAccess.copyReg (hk (.reg .c) rfl) _)) hc he hx
  | ldCC => exact keeps_complete (i := .ldCC) h.trans (keeps_taking h.refl h.trans (KeptByAccess.copyReg (hk (.reg .c) rfl) _)) hc he hx
  | ldCD => exact keeps_complete (i := .ldCD) h.trans (keeps_taking h.refl h.trans (KeptByAccess.copyReg (hk (.reg .c) rfl) _)) hc he hx
  | ldCE => exact keeps_complete (i := .ldCE) h.trans (keeps_taking h.refl h.trans (KeptByAccess.copyReg (hk (.reg .c) rfl) _)) hc he hx
  | ldCH => exact keeps_complete (i := .ldCH) h.trans (keeps_taking h.refl h.trans (KeptByAccess.copyReg (hk (.reg .c) rfl) _)) hc he hx
  | ldCL => exact keeps_complete (i := .ldCL) h.trans (keeps_taking h.refl h.trans (KeptByAccess.copyReg (hk (.reg .c) rfl) _)) hc he hx
  | ldCMemHl => exact keeps_complete (i := .ldCMemHl) h.trans (keeps_taking h.refl h.trans (h.loadFrom (hk (.reg .c) rfl) _)) hc he hx
  | ldCA => exact keeps_complete (i := .ldCA) h.trans (keeps_taking h.refl h.trans (KeptByAccess.copyReg (hk (.reg .c) rfl) _)) hc he hx
  | ldDB => exact keeps_complete (i := .ldDB) h.trans (keeps_taking h.refl h.trans (KeptByAccess.copyReg (hk (.reg .d) rfl) _)) hc he hx
  | ldDC => exact keeps_complete (i := .ldDC) h.trans (keeps_taking h.refl h.trans (KeptByAccess.copyReg (hk (.reg .d) rfl) _)) hc he hx
  | ldDD => exact keeps_complete (i := .ldDD) h.trans (keeps_taking h.refl h.trans (KeptByAccess.copyReg (hk (.reg .d) rfl) _)) hc he hx
  | ldDE => exact keeps_complete (i := .ldDE) h.trans (keeps_taking h.refl h.trans (KeptByAccess.copyReg (hk (.reg .d) rfl) _)) hc he hx
  | ldDH => exact keeps_complete (i := .ldDH) h.trans (keeps_taking h.refl h.trans (KeptByAccess.copyReg (hk (.reg .d) rfl) _)) hc he hx
  | ldDL => exact keeps_complete (i := .ldDL) h.trans (keeps_taking h.refl h.trans (KeptByAccess.copyReg (hk (.reg .d) rfl) _)) hc he hx
  | ldDMemHl => exact keeps_complete (i := .ldDMemHl) h.trans (keeps_taking h.refl h.trans (h.loadFrom (hk (.reg .d) rfl) _)) hc he hx
  | ldDA => exact keeps_complete (i := .ldDA) h.trans (keeps_taking h.refl h.trans (KeptByAccess.copyReg (hk (.reg .d) rfl) _)) hc he hx
  | ldEB => exact keeps_complete (i := .ldEB) h.trans (keeps_taking h.refl h.trans (KeptByAccess.copyReg (hk (.reg .e) rfl) _)) hc he hx
  | ldEC => exact keeps_complete (i := .ldEC) h.trans (keeps_taking h.refl h.trans (KeptByAccess.copyReg (hk (.reg .e) rfl) _)) hc he hx
  | ldED => exact keeps_complete (i := .ldED) h.trans (keeps_taking h.refl h.trans (KeptByAccess.copyReg (hk (.reg .e) rfl) _)) hc he hx
  | ldEE => exact keeps_complete (i := .ldEE) h.trans (keeps_taking h.refl h.trans (KeptByAccess.copyReg (hk (.reg .e) rfl) _)) hc he hx
  | ldEH => exact keeps_complete (i := .ldEH) h.trans (keeps_taking h.refl h.trans (KeptByAccess.copyReg (hk (.reg .e) rfl) _)) hc he hx
  | ldEL => exact keeps_complete (i := .ldEL) h.trans (keeps_taking h.refl h.trans (KeptByAccess.copyReg (hk (.reg .e) rfl) _)) hc he hx
  | ldEMemHl => exact keeps_complete (i := .ldEMemHl) h.trans (keeps_taking h.refl h.trans (h.loadFrom (hk (.reg .e) rfl) _)) hc he hx
  | ldEA => exact keeps_complete (i := .ldEA) h.trans (keeps_taking h.refl h.trans (KeptByAccess.copyReg (hk (.reg .e) rfl) _)) hc he hx
  | ldHB => exact keeps_complete (i := .ldHB) h.trans (keeps_taking h.refl h.trans (KeptByAccess.copyReg (hk (.reg .h) rfl) _)) hc he hx
  | ldHC => exact keeps_complete (i := .ldHC) h.trans (keeps_taking h.refl h.trans (KeptByAccess.copyReg (hk (.reg .h) rfl) _)) hc he hx
  | ldHD => exact keeps_complete (i := .ldHD) h.trans (keeps_taking h.refl h.trans (KeptByAccess.copyReg (hk (.reg .h) rfl) _)) hc he hx
  | ldHE => exact keeps_complete (i := .ldHE) h.trans (keeps_taking h.refl h.trans (KeptByAccess.copyReg (hk (.reg .h) rfl) _)) hc he hx
  | ldHH => exact keeps_complete (i := .ldHH) h.trans (keeps_taking h.refl h.trans (KeptByAccess.copyReg (hk (.reg .h) rfl) _)) hc he hx
  | ldHL => exact keeps_complete (i := .ldHL) h.trans (keeps_taking h.refl h.trans (KeptByAccess.copyReg (hk (.reg .h) rfl) _)) hc he hx
  | ldHMemHl => exact keeps_complete (i := .ldHMemHl) h.trans (keeps_taking h.refl h.trans (h.loadFrom (hk (.reg .h) rfl) _)) hc he hx
  | ldHA => exact keeps_complete (i := .ldHA) h.trans (keeps_taking h.refl h.trans (KeptByAccess.copyReg (hk (.reg .h) rfl) _)) hc he hx
  | ldLB => exact keeps_complete (i := .ldLB) h.trans (keeps_taking h.refl h.trans (KeptByAccess.copyReg (hk (.reg .l) rfl) _)) hc he hx
  | ldLC => exact keeps_complete (i := .ldLC) h.trans (keeps_taking h.refl h.trans (KeptByAccess.copyReg (hk (.reg .l) rfl) _)) hc he hx
  | ldLD => exact keeps_complete (i := .ldLD) h.trans (keeps_taking h.refl h.trans (KeptByAccess.copyReg (hk (.reg .l) rfl) _)) hc he hx
  | ldLE => exact keeps_complete (i := .ldLE) h.trans (keeps_taking h.refl h.trans (KeptByAccess.copyReg (hk (.reg .l) rfl) _)) hc he hx
  | ldLH => exact keeps_complete (i := .ldLH) h.trans (keeps_taking h.refl h.trans (KeptByAccess.copyReg (hk (.reg .l) rfl) _)) hc he hx
  | ldLL => exact keeps_complete (i := .ldLL) h.trans (keeps_taking h.refl h.trans (KeptByAccess.copyReg (hk (.reg .l) rfl) _)) hc he hx
  | ldLMemHl => exact keeps_complete (i := .ldLMemHl) h.trans (keeps_taking h.refl h.trans (h.loadFrom (hk (.reg .l) rfl) _)) hc he hx
  | ldLA => exact keeps_complete (i := .ldLA) h.trans (keeps_taking h.refl h.trans (KeptByAccess.copyReg (hk (.reg .l) rfl) _)) hc he hx
  | ldMemHlB => exact keeps_complete (i := .ldMemHlB) h.trans (keeps_taking h.refl h.trans (h.storeTo _ _)) hc he hx
  | ldMemHlC => exact keeps_complete (i := .ldMemHlC) h.trans (keeps_taking h.refl h.trans (h.storeTo _ _)) hc he hx
  | ldMemHlD => exact keeps_complete (i := .ldMemHlD) h.trans (keeps_taking h.refl h.trans (h.storeTo _ _)) hc he hx
  | ldMemHlE => exact keeps_complete (i := .ldMemHlE) h.trans (keeps_taking h.refl h.trans (h.storeTo _ _)) hc he hx
  | ldMemHlH => exact keeps_complete (i := .ldMemHlH) h.trans (keeps_taking h.refl h.trans (h.storeTo _ _)) hc he hx
  | ldMemHlL => exact keeps_complete (i := .ldMemHlL) h.trans (keeps_taking h.refl h.trans (h.storeTo _ _)) hc he hx
  | halt => exact keeps_complete (i := .halt) h.trans (keeps_taking h.refl h.trans (KeptByAccess.haltCore (hk .run rfl))) hc he hx
  | ldMemHlA => exact keeps_complete (i := .ldMemHlA) h.trans (keeps_taking h.refl h.trans (h.storeTo _ _)) hc he hx
  | ldAB => exact keeps_complete (i := .ldAB) h.trans (keeps_taking h.refl h.trans (KeptByAccess.copyReg (hk (.reg .a) rfl) _)) hc he hx
  | ldAC => exact keeps_complete (i := .ldAC) h.trans (keeps_taking h.refl h.trans (KeptByAccess.copyReg (hk (.reg .a) rfl) _)) hc he hx
  | ldAD => exact keeps_complete (i := .ldAD) h.trans (keeps_taking h.refl h.trans (KeptByAccess.copyReg (hk (.reg .a) rfl) _)) hc he hx
  | ldAE => exact keeps_complete (i := .ldAE) h.trans (keeps_taking h.refl h.trans (KeptByAccess.copyReg (hk (.reg .a) rfl) _)) hc he hx
  | ldAH => exact keeps_complete (i := .ldAH) h.trans (keeps_taking h.refl h.trans (KeptByAccess.copyReg (hk (.reg .a) rfl) _)) hc he hx
  | ldAL => exact keeps_complete (i := .ldAL) h.trans (keeps_taking h.refl h.trans (KeptByAccess.copyReg (hk (.reg .a) rfl) _)) hc he hx
  | ldAMemHl => exact keeps_complete (i := .ldAMemHl) h.trans (keeps_taking h.refl h.trans (h.loadFrom (hk (.reg .a) rfl) _)) hc he hx
  | ldAA => exact keeps_complete (i := .ldAA) h.trans (keeps_taking h.refl h.trans (KeptByAccess.copyReg (hk (.reg .a) rfl) _)) hc he hx
  | addAB => exact keeps_complete (i := .addAB) h.trans (keeps_taking h.refl h.trans (h.aluWith .add (fun _ => (hk (.reg .a) rfl)) (hk .flags rfl) (.reg .b))) hc he hx
  | addAC => exact keeps_complete (i := .addAC) h.trans (keeps_taking h.refl h.trans (h.aluWith .add (fun _ => (hk (.reg .a) rfl)) (hk .flags rfl) (.reg .c))) hc he hx
  | addAD => exact keeps_complete (i := .addAD) h.trans (keeps_taking h.refl h.trans (h.aluWith .add (fun _ => (hk (.reg .a) rfl)) (hk .flags rfl) (.reg .d))) hc he hx
  | addAE => exact keeps_complete (i := .addAE) h.trans (keeps_taking h.refl h.trans (h.aluWith .add (fun _ => (hk (.reg .a) rfl)) (hk .flags rfl) (.reg .e))) hc he hx
  | addAH => exact keeps_complete (i := .addAH) h.trans (keeps_taking h.refl h.trans (h.aluWith .add (fun _ => (hk (.reg .a) rfl)) (hk .flags rfl) (.reg .h))) hc he hx
  | addAL => exact keeps_complete (i := .addAL) h.trans (keeps_taking h.refl h.trans (h.aluWith .add (fun _ => (hk (.reg .a) rfl)) (hk .flags rfl) (.reg .l))) hc he hx
  | addAMemHl => exact keeps_complete (i := .addAMemHl) h.trans (keeps_taking h.refl h.trans (h.aluWith .add (fun _ => (hk (.reg .a) rfl)) (hk .flags rfl) .memHl)) hc he hx
  | addAA => exact keeps_complete (i := .addAA) h.trans (keeps_taking h.refl h.trans (h.aluWith .add (fun _ => (hk (.reg .a) rfl)) (hk .flags rfl) (.reg .a))) hc he hx
  | adcAB => exact keeps_complete (i := .adcAB) h.trans (keeps_taking h.refl h.trans (h.aluWith .adc (fun _ => (hk (.reg .a) rfl)) (hk .flags rfl) (.reg .b))) hc he hx
  | adcAC => exact keeps_complete (i := .adcAC) h.trans (keeps_taking h.refl h.trans (h.aluWith .adc (fun _ => (hk (.reg .a) rfl)) (hk .flags rfl) (.reg .c))) hc he hx
  | adcAD => exact keeps_complete (i := .adcAD) h.trans (keeps_taking h.refl h.trans (h.aluWith .adc (fun _ => (hk (.reg .a) rfl)) (hk .flags rfl) (.reg .d))) hc he hx
  | adcAE => exact keeps_complete (i := .adcAE) h.trans (keeps_taking h.refl h.trans (h.aluWith .adc (fun _ => (hk (.reg .a) rfl)) (hk .flags rfl) (.reg .e))) hc he hx
  | adcAH => exact keeps_complete (i := .adcAH) h.trans (keeps_taking h.refl h.trans (h.aluWith .adc (fun _ => (hk (.reg .a) rfl)) (hk .flags rfl) (.reg .h))) hc he hx
  | adcAL => exact keeps_complete (i := .adcAL) h.trans (keeps_taking h.refl h.trans (h.aluWith .adc (fun _ => (hk (.reg .a) rfl)) (hk .flags rfl) (.reg .l))) hc he hx
  | adcAMemHl => exact keeps_complete (i := .adcAMemHl) h.trans (keeps_taking h.refl h.trans (h.aluWith .adc (fun _ => (hk (.reg .a) rfl)) (hk .flags rfl) .memHl)) hc he hx
  | adcAA => exact keeps_complete (i := .adcAA) h.trans (keeps_taking h.refl h.trans (h.aluWith .adc (fun _ => (hk (.reg .a) rfl)) (hk .flags rfl) (.reg .a))) hc he hx
  | subB => exact keeps_complete (i := .subB) h.trans (keeps_taking h.refl h.trans (h.aluWith .sub (fun _ => (hk (.reg .a) rfl)) (hk .flags rfl) (.reg .b))) hc he hx
  | subC => exact keeps_complete (i := .subC) h.trans (keeps_taking h.refl h.trans (h.aluWith .sub (fun _ => (hk (.reg .a) rfl)) (hk .flags rfl) (.reg .c))) hc he hx
  | subD => exact keeps_complete (i := .subD) h.trans (keeps_taking h.refl h.trans (h.aluWith .sub (fun _ => (hk (.reg .a) rfl)) (hk .flags rfl) (.reg .d))) hc he hx
  | subE => exact keeps_complete (i := .subE) h.trans (keeps_taking h.refl h.trans (h.aluWith .sub (fun _ => (hk (.reg .a) rfl)) (hk .flags rfl) (.reg .e))) hc he hx
  | subH => exact keeps_complete (i := .subH) h.trans (keeps_taking h.refl h.trans (h.aluWith .sub (fun _ => (hk (.reg .a) rfl)) (hk .flags rfl) (.reg .h))) hc he hx
  | subL => exact keeps_complete (i := .subL) h.trans (keeps_taking h.refl h.trans (h.aluWith .sub (fun _ => (hk (.reg .a) rfl)) (hk .flags rfl) (.reg .l))) hc he hx
  | subMemHl => exact keeps_complete (i := .subMemHl) h.trans (keeps_taking h.refl h.trans (h.aluWith .sub (fun _ => (hk (.reg .a) rfl)) (hk .flags rfl) .memHl)) hc he hx
  | subA => exact keeps_complete (i := .subA) h.trans (keeps_taking h.refl h.trans (h.aluWith .sub (fun _ => (hk (.reg .a) rfl)) (hk .flags rfl) (.reg .a))) hc he hx
  | sbcAB => exact keeps_complete (i := .sbcAB) h.trans (keeps_taking h.refl h.trans (h.aluWith .sbc (fun _ => (hk (.reg .a) rfl)) (hk .flags rfl) (.reg .b))) hc he hx
  | sbcAC => exact keeps_complete (i := .sbcAC) h.trans (keeps_taking h.refl h.trans (h.aluWith .sbc (fun _ => (hk (.reg .a) rfl)) (hk .flags rfl) (.reg .c))) hc he hx
  | sbcAD => exact keeps_complete (i := .sbcAD) h.trans (keeps_taking h.refl h.trans (h.aluWith .sbc (fun _ => (hk (.reg .a) rfl)) (hk .flags rfl) (.reg .d))) hc he hx
  | sbcAE => exact keeps_complete (i := .sbcAE) h.trans (keeps_taking h.refl h.trans (h.aluWith .sbc (fun _ => (hk (.reg .a) rfl)) (hk .flags rfl) (.reg .e))) hc he hx
  | sbcAH => exact keeps_complete (i := .sbcAH) h.trans (keeps_taking h.refl h.trans (h.aluWith .sbc (fun _ => (hk (.reg .a) rfl)) (hk .flags rfl) (.reg .h))) hc he hx
  | sbcAL => exact keeps_complete (i := .sbcAL) h.trans (keeps_taking h.refl h.trans (h.aluWith .sbc (fun _ => (hk (.reg .a) rfl)) (hk .flags rfl) (.reg .l))) hc he hx
  | sbcAMemHl => exact keeps_complete (i := .sbcAMemHl) h.trans (keeps_taking h.refl h.trans (h.aluWith .sbc (fun _ => (hk (.reg .a) rfl)) (hk .flags rfl) .memHl)) hc he hx
  | sbcAA => exact keeps_complete (i := .sbcAA) h.trans (keeps_taking h.refl h.trans (h.aluWith .sbc (fun _ => (hk (.reg .a) rfl)) (hk .flags rfl) (.reg .a))) hc he hx
  | andB => exact keeps_complete (i := .andB) h.trans (keeps_taking h.refl h.trans (h.aluWith .and (fun _ => (hk (.reg .a) rfl)) (hk .flags rfl) (.reg .b))) hc he hx
  | andC => exact keeps_complete (i := .andC) h.trans (keeps_taking h.refl h.trans (h.aluWith .and (fun _ => (hk (.reg .a) rfl)) (hk .flags rfl) (.reg .c))) hc he hx
  | andD => exact keeps_complete (i := .andD) h.trans (keeps_taking h.refl h.trans (h.aluWith .and (fun _ => (hk (.reg .a) rfl)) (hk .flags rfl) (.reg .d))) hc he hx
  | andE => exact keeps_complete (i := .andE) h.trans (keeps_taking h.refl h.trans (h.aluWith .and (fun _ => (hk (.reg .a) rfl)) (hk .flags rfl) (.reg .e))) hc he hx
  | andH => exact keeps_complete (i := .andH) h.trans (keeps_taking h.refl h.trans (h.aluWith .and (fun _ => (hk (.reg .a) rfl)) (hk .flags rfl) (.reg .h))) hc he hx
  | andL => exact keeps_complete (i := .andL) h.trans (keeps_taking h.refl h.trans (h.aluWith .and (fun _ => (hk (.reg .a) rfl)) (hk .flags rfl) (.reg .l))) hc he hx
  | andMemHl => exact keeps_complete (i := .andMemHl) h.trans (keeps_taking h.refl h.trans (h.aluWith .and (fun _ => (hk (.reg .a) rfl)) (hk .flags rfl) .memHl)) hc he hx
  | andA => exact keeps_complete (i := .andA) h.trans (keeps_taking h.refl h.trans (h.aluWith .and (fun _ => (hk (.reg .a) rfl)) (hk .flags rfl) (.reg .a))) hc he hx
  | xorB => exact keeps_complete (i := .xorB) h.trans (keeps_taking h.refl h.trans (h.aluWith .xor (fun _ => (hk (.reg .a) rfl)) (hk .flags rfl) (.reg .b))) hc he hx
  | xorC => exact keeps_complete (i := .xorC) h.trans (keeps_taking h.refl h.trans (h.aluWith .xor (fun _ => (hk (.reg .a) rfl)) (hk .flags rfl) (.reg .c))) hc he hx
  | xorD => exact keeps_complete (i := .xorD) h.trans (keeps_taking h.refl h.trans (h.aluWith .xor (fun _ => (hk (.reg .a) rfl)) (hk .flags rfl) (.reg .d))) hc he hx
  | xorE => exact keeps_complete (i := .xorE) h.trans (keeps_taking h.refl h.trans (h.aluWith .xor (fun _ => (hk (.reg .a) rfl)) (hk .flags rfl) (.reg .e))) hc he hx
  | xorH => exact keeps_complete (i := .xorH) h.trans (keeps_taking h.refl h.trans (h.aluWith .xor (fun _ => (hk (.reg .a) rfl)) (hk .flags rfl) (.reg .h))) hc he hx
  | xorL => exact keeps_complete (i := .xorL) h.trans (keeps_taking h.refl h.trans (h.aluWith .xor (fun _ => (hk (.reg .a) rfl)) (hk .flags rfl) (.reg .l))) hc he hx
  | xorMemHl => exact keeps_complete (i := .xorMemHl) h.trans (keeps_taking h.refl h.trans (h.aluWith .xor (fun _ => (hk (.reg .a) rfl)) (hk .flags rfl) .memHl)) hc he hx
  | xorA => exact keeps_complete (i := .xorA) h.trans (keeps_taking h.refl h.trans (h.aluWith .xor (fun _ => (hk (.reg .a) rfl)) (hk .flags rfl) (.reg .a))) hc he hx
  | orB => exact keeps_complete (i := .orB) h.trans (keeps_taking h.refl h.trans (h.aluWith .or (fun _ => (hk (.reg .a) rfl)) (hk .flags rfl) (.reg .b))) hc he hx
  | orC => exact keeps_complete (i := .orC) h.trans (keeps_taking h.refl h.trans (h.aluWith .or (fun _ => (hk (.reg .a) rfl)) (hk .flags rfl) (.reg .c))) hc he hx
  | orD => exact keeps_complete (i := .orD) h.trans (keeps_taking h.refl h.trans (h.aluWith .or (fun _ => (hk (.reg .a) rfl)) (hk .flags rfl) (.reg .d))) hc he hx
  | orE => exact keeps_complete (i := .orE) h.trans (keeps_taking h.refl h.trans (h.aluWith .or (fun _ => (hk (.reg .a) rfl)) (hk .flags rfl) (.reg .e))) hc he hx
  | orH => exact keeps_complete (i := .orH) h.trans (keeps_taking h.refl h.trans (h.aluWith .or (fun _ => (hk (.reg .a) rfl)) (hk .flags rfl) (.reg .h))) hc he hx
  | orL => exact keeps_complete (i := .orL) h.trans (keeps_taking h.refl h.trans (h.aluWith .or (fun _ => (hk (.reg .a) rfl)) (hk .flags rfl) (.reg .l))) hc he hx
  | orMemHl => exact keeps_complete (i := .orMemHl) h.trans (keeps_taking h.refl h.trans (h.aluWith .or (fun _ => (hk (.reg .a) rfl)) (hk .flags rfl) .memHl)) hc he hx
  | orA => exact keeps_complete (i := .orA) h.trans (keeps_taking h.refl h.trans (h.aluWith .or (fun _ => (hk (.reg .a) rfl)) (hk .flags rfl) (.reg .a))) hc he hx
  | cpB => exact keeps_complete (i := .cpB) h.trans (keeps_taking h.refl h.trans (h.aluWith .cp (fun e => absurd rfl e) (hk .flags rfl) (.reg .b))) hc he hx
  | cpC => exact keeps_complete (i := .cpC) h.trans (keeps_taking h.refl h.trans (h.aluWith .cp (fun e => absurd rfl e) (hk .flags rfl) (.reg .c))) hc he hx
  | cpD => exact keeps_complete (i := .cpD) h.trans (keeps_taking h.refl h.trans (h.aluWith .cp (fun e => absurd rfl e) (hk .flags rfl) (.reg .d))) hc he hx
  | cpE => exact keeps_complete (i := .cpE) h.trans (keeps_taking h.refl h.trans (h.aluWith .cp (fun e => absurd rfl e) (hk .flags rfl) (.reg .e))) hc he hx
  | cpH => exact keeps_complete (i := .cpH) h.trans (keeps_taking h.refl h.trans (h.aluWith .cp (fun e => absurd rfl e) (hk .flags rfl) (.reg .h))) hc he hx
  | cpL => exact keeps_complete (i := .cpL) h.trans (keeps_taking h.refl h.trans (h.aluWith .cp (fun e => absurd rfl e) (hk .flags rfl) (.reg .l))) hc he hx
  | cpMemHl => exact keeps_complete (i := .cpMemHl) h.trans (keeps_taking h.refl h.trans (h.aluWith .cp (fun e => absurd rfl e) (hk .flags rfl) .memHl)) hc he hx
  | cpA => exact keeps_complete (i := .cpA) h.trans (keeps_taking h.refl h.trans (h.aluWith .cp (fun e => absurd rfl e) (hk .flags rfl) (.reg .a))) hc he hx
  | retNz => exact keeps_complete (i := .retNz) h.trans (keeps_branch h.refl h.trans (h.return16 (hk .sp rfl) (hk .pc rfl))) hc he hx
  | popBc => exact keeps_complete (i := .popBc) h.trans (keeps_taking h.refl h.trans (h.popPair (p := .bc) (q := .bc) (fun _ _ => rfl) (by decide) (hk .sp rfl) (pair_regs (hk (.reg .b) rfl) (hk (.reg .c) rfl)))) hc he hx
  | pushBc => exact keeps_complete (i := .pushBc) h.trans (keeps_taking h.refl h.trans (h.pushPair (hk .sp rfl) .bc)) hc he hx
  | rst00 => exact keeps_complete (i := .rst00) h.trans (keeps_taking h.refl h.trans (h.restart (hk .sp rfl) (hk .pc rfl) _)) hc he hx
  | retZ => exact keeps_complete (i := .retZ) h.trans (keeps_branch h.refl h.trans (h.return16 (hk .sp rfl) (hk .pc rfl))) hc he hx
  | ret => exact keeps_complete (i := .ret) h.trans (keeps_taking h.refl h.trans (h.return16 (hk .sp rfl) (hk .pc rfl))) hc he hx
  | rst08 => exact keeps_complete (i := .rst08) h.trans (keeps_taking h.refl h.trans (h.restart (hk .sp rfl) (hk .pc rfl) _)) hc he hx
  | retNc => exact keeps_complete (i := .retNc) h.trans (keeps_branch h.refl h.trans (h.return16 (hk .sp rfl) (hk .pc rfl))) hc he hx
  | popDe => exact keeps_complete (i := .popDe) h.trans (keeps_taking h.refl h.trans (h.popPair (p := .de) (q := .de) (fun _ _ => rfl) (by decide) (hk .sp rfl) (pair_regs (hk (.reg .d) rfl) (hk (.reg .e) rfl)))) hc he hx
  | illegalD3 => exact keeps_complete (i := .illegalD3) h.trans (keeps_taking h.refl h.trans (h.illegalOpcode (hk .mark rfl))) hc he hx
  | pushDe => exact keeps_complete (i := .pushDe) h.trans (keeps_taking h.refl h.trans (h.pushPair (hk .sp rfl) .de)) hc he hx
  | rst10 => exact keeps_complete (i := .rst10) h.trans (keeps_taking h.refl h.trans (h.restart (hk .sp rfl) (hk .pc rfl) _)) hc he hx
  | retC => exact keeps_complete (i := .retC) h.trans (keeps_branch h.refl h.trans (h.return16 (hk .sp rfl) (hk .pc rfl))) hc he hx
  | reti => exact keeps_complete (i := .reti) h.trans (keeps_taking h.refl h.trans (h.returnEnable (hk .sp rfl) (hk .pc rfl) (hk .ime rfl))) hc he hx
  | illegalDB => exact keeps_complete (i := .illegalDB) h.trans (keeps_taking h.refl h.trans (h.illegalOpcode (hk .mark rfl))) hc he hx
  | illegalDD => exact keeps_complete (i := .illegalDD) h.trans (keeps_taking h.refl h.trans (h.illegalOpcode (hk .mark rfl))) hc he hx
  | rst18 => exact keeps_complete (i := .rst18) h.trans (keeps_taking h.refl h.trans (h.restart (hk .sp rfl) (hk .pc rfl) _)) hc he hx
  | popHl => exact keeps_complete (i := .popHl) h.trans (keeps_taking h.refl h.trans (h.popPair (p := .hl) (q := .hl) (fun _ _ => rfl) (by decide) (hk .sp rfl) (pair_regs (hk (.reg .h) rfl) (hk (.reg .l) rfl)))) hc he hx
  | ldMemCA => exact keeps_complete (i := .ldMemCA) h.trans (keeps_taking h.refl h.trans (h.storeTo _ _)) hc he hx
  | illegalE3 => exact keeps_complete (i := .illegalE3) h.trans (keeps_taking h.refl h.trans (h.illegalOpcode (hk .mark rfl))) hc he hx
  | illegalE4 => exact keeps_complete (i := .illegalE4) h.trans (keeps_taking h.refl h.trans (h.illegalOpcode (hk .mark rfl))) hc he hx
  | pushHl => exact keeps_complete (i := .pushHl) h.trans (keeps_taking h.refl h.trans (h.pushPair (hk .sp rfl) .hl)) hc he hx
  | rst20 => exact keeps_complete (i := .rst20) h.trans (keeps_taking h.refl h.trans (h.restart (hk .sp rfl) (hk .pc rfl) _)) hc he hx
  | jpHl => exact keeps_complete (i := .jpHl) h.trans (keeps_taking h.refl h.trans (KeptByAccess.jumpHl (hk .pc rfl))) hc he hx
  | illegalEB => exact keeps_complete (i := .illegalEB) h.trans (keeps_taking h.refl h.trans (h.illegalOpcode (hk .mark rfl))) hc he hx
  | illegalEC => exact keeps_complete (i := .illegalEC) h.trans (keeps_taking h.refl h.trans (h.illegalOpcode (hk .mark rfl))) hc he hx
  | illegalED => exact keeps_complete (i := .illegalED) h.trans (keeps_taking h.refl h.trans (h.illegalOpcode (hk .mark rfl))) hc he hx
  | rst28 => exact keeps_complete (i := .rst28) h.trans (keeps_taking h.refl h.trans (h.restart (hk .sp rfl) (hk .pc rfl) _)) hc he hx
  | popAf => exact keeps_complete (i := .popAf) h.trans (keeps_taking h.refl h.trans (h.popAf (hk .sp rfl) (hk (.reg .a) rfl) (hk .flags rfl))) hc he hx
  | ldAMemC => exact keeps_complete (i := .ldAMemC) h.trans (keeps_taking h.refl h.trans (h.loadFrom (hk (.reg .a) rfl) _)) hc he hx
  | di => exact keeps_complete (i := .di) h.trans (keeps_taking h.refl h.trans (KeptByAccess.writeIme (hk .ime rfl) _)) hc he hx
  | illegalF4 => exact keeps_complete (i := .illegalF4) h.trans (keeps_taking h.refl h.trans (h.illegalOpcode (hk .mark rfl))) hc he hx
  | pushAf => exact keeps_complete (i := .pushAf) h.trans (keeps_taking h.refl h.trans (h.pushPair (hk .sp rfl) .af)) hc he hx
  | rst30 => exact keeps_complete (i := .rst30) h.trans (keeps_taking h.refl h.trans (h.restart (hk .sp rfl) (hk .pc rfl) _)) hc he hx
  | ldSpHl => exact keeps_complete (i := .ldSpHl) h.trans (keeps_taking h.refl h.trans (KeptByAccess.loadSpHl (hk .sp rfl))) hc he hx
  | ei => exact keeps_complete (i := .ei) h.trans (keeps_taking h.refl h.trans (KeptByAccess.writeIme (hk .ime rfl) _)) hc he hx
  | illegalFC => exact keeps_complete (i := .illegalFC) h.trans (keeps_taking h.refl h.trans (h.illegalOpcode (hk .mark rfl))) hc he hx
  | illegalFD => exact keeps_complete (i := .illegalFD) h.trans (keeps_taking h.refl h.trans (h.illegalOpcode (hk .mark rfl))) hc he hx
  | rst38 => exact keeps_complete (i := .rst38) h.trans (keeps_taking h.refl h.trans (h.restart (hk .sp rfl) (hk .pc rfl) _)) hc he hx
  | rlcB => exact keeps_complete (i := .rlcB) h.trans (keeps_taking h.refl h.trans (h.rotateOperand .rlc (.reg .b) (operand_regs (hk (.reg .b) rfl)) (hk .flags rfl))) hc he hx
  | rlcC => exact keeps_complete (i := .rlcC) h.trans (keeps_taking h.refl h.trans (h.rotateOperand .rlc (.reg .c) (operand_regs (hk (.reg .c) rfl)) (hk .flags rfl))) hc he hx
  | rlcD => exact keeps_complete (i := .rlcD) h.trans (keeps_taking h.refl h.trans (h.rotateOperand .rlc (.reg .d) (operand_regs (hk (.reg .d) rfl)) (hk .flags rfl))) hc he hx
  | rlcE => exact keeps_complete (i := .rlcE) h.trans (keeps_taking h.refl h.trans (h.rotateOperand .rlc (.reg .e) (operand_regs (hk (.reg .e) rfl)) (hk .flags rfl))) hc he hx
  | rlcH => exact keeps_complete (i := .rlcH) h.trans (keeps_taking h.refl h.trans (h.rotateOperand .rlc (.reg .h) (operand_regs (hk (.reg .h) rfl)) (hk .flags rfl))) hc he hx
  | rlcL => exact keeps_complete (i := .rlcL) h.trans (keeps_taking h.refl h.trans (h.rotateOperand .rlc (.reg .l) (operand_regs (hk (.reg .l) rfl)) (hk .flags rfl))) hc he hx
  | rlcMemHl => exact keeps_complete (i := .rlcMemHl) h.trans (keeps_taking h.refl h.trans (h.rotateOperand .rlc .memHl memHl_regs (hk .flags rfl))) hc he hx
  | rlcA => exact keeps_complete (i := .rlcA) h.trans (keeps_taking h.refl h.trans (h.rotateOperand .rlc (.reg .a) (operand_regs (hk (.reg .a) rfl)) (hk .flags rfl))) hc he hx
  | rrcB => exact keeps_complete (i := .rrcB) h.trans (keeps_taking h.refl h.trans (h.rotateOperand .rrc (.reg .b) (operand_regs (hk (.reg .b) rfl)) (hk .flags rfl))) hc he hx
  | rrcC => exact keeps_complete (i := .rrcC) h.trans (keeps_taking h.refl h.trans (h.rotateOperand .rrc (.reg .c) (operand_regs (hk (.reg .c) rfl)) (hk .flags rfl))) hc he hx
  | rrcD => exact keeps_complete (i := .rrcD) h.trans (keeps_taking h.refl h.trans (h.rotateOperand .rrc (.reg .d) (operand_regs (hk (.reg .d) rfl)) (hk .flags rfl))) hc he hx
  | rrcE => exact keeps_complete (i := .rrcE) h.trans (keeps_taking h.refl h.trans (h.rotateOperand .rrc (.reg .e) (operand_regs (hk (.reg .e) rfl)) (hk .flags rfl))) hc he hx
  | rrcH => exact keeps_complete (i := .rrcH) h.trans (keeps_taking h.refl h.trans (h.rotateOperand .rrc (.reg .h) (operand_regs (hk (.reg .h) rfl)) (hk .flags rfl))) hc he hx
  | rrcL => exact keeps_complete (i := .rrcL) h.trans (keeps_taking h.refl h.trans (h.rotateOperand .rrc (.reg .l) (operand_regs (hk (.reg .l) rfl)) (hk .flags rfl))) hc he hx
  | rrcMemHl => exact keeps_complete (i := .rrcMemHl) h.trans (keeps_taking h.refl h.trans (h.rotateOperand .rrc .memHl memHl_regs (hk .flags rfl))) hc he hx
  | rrcA => exact keeps_complete (i := .rrcA) h.trans (keeps_taking h.refl h.trans (h.rotateOperand .rrc (.reg .a) (operand_regs (hk (.reg .a) rfl)) (hk .flags rfl))) hc he hx
  | rlB => exact keeps_complete (i := .rlB) h.trans (keeps_taking h.refl h.trans (h.rotateOperand .rl (.reg .b) (operand_regs (hk (.reg .b) rfl)) (hk .flags rfl))) hc he hx
  | rlC => exact keeps_complete (i := .rlC) h.trans (keeps_taking h.refl h.trans (h.rotateOperand .rl (.reg .c) (operand_regs (hk (.reg .c) rfl)) (hk .flags rfl))) hc he hx
  | rlD => exact keeps_complete (i := .rlD) h.trans (keeps_taking h.refl h.trans (h.rotateOperand .rl (.reg .d) (operand_regs (hk (.reg .d) rfl)) (hk .flags rfl))) hc he hx
  | rlE => exact keeps_complete (i := .rlE) h.trans (keeps_taking h.refl h.trans (h.rotateOperand .rl (.reg .e) (operand_regs (hk (.reg .e) rfl)) (hk .flags rfl))) hc he hx
  | rlH => exact keeps_complete (i := .rlH) h.trans (keeps_taking h.refl h.trans (h.rotateOperand .rl (.reg .h) (operand_regs (hk (.reg .h) rfl)) (hk .flags rfl))) hc he hx
  | rlL => exact keeps_complete (i := .rlL) h.trans (keeps_taking h.refl h.trans (h.rotateOperand .rl (.reg .l) (operand_regs (hk (.reg .l) rfl)) (hk .flags rfl))) hc he hx
  | rlMemHl => exact keeps_complete (i := .rlMemHl) h.trans (keeps_taking h.refl h.trans (h.rotateOperand .rl .memHl memHl_regs (hk .flags rfl))) hc he hx
  | rlA => exact keeps_complete (i := .rlA) h.trans (keeps_taking h.refl h.trans (h.rotateOperand .rl (.reg .a) (operand_regs (hk (.reg .a) rfl)) (hk .flags rfl))) hc he hx
  | rrB => exact keeps_complete (i := .rrB) h.trans (keeps_taking h.refl h.trans (h.rotateOperand .rr (.reg .b) (operand_regs (hk (.reg .b) rfl)) (hk .flags rfl))) hc he hx
  | rrC => exact keeps_complete (i := .rrC) h.trans (keeps_taking h.refl h.trans (h.rotateOperand .rr (.reg .c) (operand_regs (hk (.reg .c) rfl)) (hk .flags rfl))) hc he hx
  | rrD => exact keeps_complete (i := .rrD) h.trans (keeps_taking h.refl h.trans (h.rotateOperand .rr (.reg .d) (operand_regs (hk (.reg .d) rfl)) (hk .flags rfl))) hc he hx
  | rrE => exact keeps_complete (i := .rrE) h.trans (keeps_taking h.refl h.trans (h.rotateOperand .rr (.reg .e) (operand_regs (hk (.reg .e) rfl)) (hk .flags rfl))) hc he hx
  | rrH => exact keeps_complete (i := .rrH) h.trans (keeps_taking h.refl h.trans (h.rotateOperand .rr (.reg .h) (operand_regs (hk (.reg .h) rfl)) (hk .flags rfl))) hc he hx
  | rrL => exact keeps_complete (i := .rrL) h.trans (keeps_taking h.refl h.trans (h.rotateOperand .rr (.reg .l) (operand_regs (hk (.reg .l) rfl)) (hk .flags rfl))) hc he hx
  | rrMemHl => exact keeps_complete (i := .rrMemHl) h.trans (keeps_taking h.refl h.trans (h.rotateOperand .rr .memHl memHl_regs (hk .flags rfl))) hc he hx
  | rrA => exact keeps_complete (i := .rrA) h.trans (keeps_taking h.refl h.trans (h.rotateOperand .rr (.reg .a) (operand_regs (hk (.reg .a) rfl)) (hk .flags rfl))) hc he hx
  | slaB => exact keeps_complete (i := .slaB) h.trans (keeps_taking h.refl h.trans (h.rotateOperand .sla (.reg .b) (operand_regs (hk (.reg .b) rfl)) (hk .flags rfl))) hc he hx
  | slaC => exact keeps_complete (i := .slaC) h.trans (keeps_taking h.refl h.trans (h.rotateOperand .sla (.reg .c) (operand_regs (hk (.reg .c) rfl)) (hk .flags rfl))) hc he hx
  | slaD => exact keeps_complete (i := .slaD) h.trans (keeps_taking h.refl h.trans (h.rotateOperand .sla (.reg .d) (operand_regs (hk (.reg .d) rfl)) (hk .flags rfl))) hc he hx
  | slaE => exact keeps_complete (i := .slaE) h.trans (keeps_taking h.refl h.trans (h.rotateOperand .sla (.reg .e) (operand_regs (hk (.reg .e) rfl)) (hk .flags rfl))) hc he hx
  | slaH => exact keeps_complete (i := .slaH) h.trans (keeps_taking h.refl h.trans (h.rotateOperand .sla (.reg .h) (operand_regs (hk (.reg .h) rfl)) (hk .flags rfl))) hc he hx
  | slaL => exact keeps_complete (i := .slaL) h.trans (keeps_taking h.refl h.trans (h.rotateOperand .sla (.reg .l) (operand_regs (hk (.reg .l) rfl)) (hk .flags rfl))) hc he hx
  | slaMemHl => exact keeps_complete (i := .slaMemHl) h.trans (keeps_taking h.refl h.trans (h.rotateOperand .sla .memHl memHl_regs (hk .flags rfl))) hc he hx
  | slaA => exact keeps_complete (i := .slaA) h.trans (keeps_taking h.refl h.trans (h.rotateOperand .sla (.reg .a) (operand_regs (hk (.reg .a) rfl)) (hk .flags rfl))) hc he hx
  | sraB => exact keeps_complete (i := .sraB) h.trans (keeps_taking h.refl h.trans (h.rotateOperand .sra (.reg .b) (operand_regs (hk (.reg .b) rfl)) (hk .flags rfl))) hc he hx
  | sraC => exact keeps_complete (i := .sraC) h.trans (keeps_taking h.refl h.trans (h.rotateOperand .sra (.reg .c) (operand_regs (hk (.reg .c) rfl)) (hk .flags rfl))) hc he hx
  | sraD => exact keeps_complete (i := .sraD) h.trans (keeps_taking h.refl h.trans (h.rotateOperand .sra (.reg .d) (operand_regs (hk (.reg .d) rfl)) (hk .flags rfl))) hc he hx
  | sraE => exact keeps_complete (i := .sraE) h.trans (keeps_taking h.refl h.trans (h.rotateOperand .sra (.reg .e) (operand_regs (hk (.reg .e) rfl)) (hk .flags rfl))) hc he hx
  | sraH => exact keeps_complete (i := .sraH) h.trans (keeps_taking h.refl h.trans (h.rotateOperand .sra (.reg .h) (operand_regs (hk (.reg .h) rfl)) (hk .flags rfl))) hc he hx
  | sraL => exact keeps_complete (i := .sraL) h.trans (keeps_taking h.refl h.trans (h.rotateOperand .sra (.reg .l) (operand_regs (hk (.reg .l) rfl)) (hk .flags rfl))) hc he hx
  | sraMemHl => exact keeps_complete (i := .sraMemHl) h.trans (keeps_taking h.refl h.trans (h.rotateOperand .sra .memHl memHl_regs (hk .flags rfl))) hc he hx
  | sraA => exact keeps_complete (i := .sraA) h.trans (keeps_taking h.refl h.trans (h.rotateOperand .sra (.reg .a) (operand_regs (hk (.reg .a) rfl)) (hk .flags rfl))) hc he hx
  | swapB => exact keeps_complete (i := .swapB) h.trans (keeps_taking h.refl h.trans (h.rotateOperand .swap (.reg .b) (operand_regs (hk (.reg .b) rfl)) (hk .flags rfl))) hc he hx
  | swapC => exact keeps_complete (i := .swapC) h.trans (keeps_taking h.refl h.trans (h.rotateOperand .swap (.reg .c) (operand_regs (hk (.reg .c) rfl)) (hk .flags rfl))) hc he hx
  | swapD => exact keeps_complete (i := .swapD) h.trans (keeps_taking h.refl h.trans (h.rotateOperand .swap (.reg .d) (operand_regs (hk (.reg .d) rfl)) (hk .flags rfl))) hc he hx
  | swapE => exact keeps_complete (i := .swapE) h.trans (keeps_taking h.refl h.trans (h.rotateOperand .swap (.reg .e) (operand_regs (hk (.reg .e) rfl)) (hk .flags rfl))) hc he hx
  | swapH => exact keeps_complete (i := .swapH) h.trans (keeps_taking h.refl h.trans (h.rotateOperand .swap (.reg .h) (operand_regs (hk (.reg .h) rfl)) (hk .flags rfl))) hc he hx
  | swapL => exact keeps_complete (i := .swapL) h.trans (keeps_taking h.refl h.trans (h.rotateOperand .swap (.reg .l) (operand_regs (hk (.reg .l) rfl)) (hk .flags rfl))) hc he hx
  | swapMemHl => exact keeps_complete (i := .swapMemHl) h.trans (keeps_taking h.refl h.trans (h.rotateOperand .swap .memHl memHl_regs (hk .flags rfl))) hc he hx
  | swapA => exact keeps_complete (i := .swapA) h.trans (keeps_taking h.refl h.trans (h.rotateOperand .swap (.reg .a) (operand_regs (hk (.reg .a) rfl)) (hk .flags rfl))) hc he hx
  | srlB => exact keeps_complete (i := .srlB) h.trans (keeps_taking h.refl h.trans (h.rotateOperand .srl (.reg .b) (operand_regs (hk (.reg .b) rfl)) (hk .flags rfl))) hc he hx
  | srlC => exact keeps_complete (i := .srlC) h.trans (keeps_taking h.refl h.trans (h.rotateOperand .srl (.reg .c) (operand_regs (hk (.reg .c) rfl)) (hk .flags rfl))) hc he hx
  | srlD => exact keeps_complete (i := .srlD) h.trans (keeps_taking h.refl h.trans (h.rotateOperand .srl (.reg .d) (operand_regs (hk (.reg .d) rfl)) (hk .flags rfl))) hc he hx
  | srlE => exact keeps_complete (i := .srlE) h.trans (keeps_taking h.refl h.trans (h.rotateOperand .srl (.reg .e) (operand_regs (hk (.reg .e) rfl)) (hk .flags rfl))) hc he hx
  | srlH => exact keeps_complete (i := .srlH) h.trans (keeps_taking h.refl h.trans (h.rotateOperand .srl (.reg .h) (operand_regs (hk (.reg .h) rfl)) (hk .flags rfl))) hc he hx
  | srlL => exact keeps_complete (i := .srlL) h.trans (keeps_taking h.refl h.trans (h.rotateOperand .srl (.reg .l) (operand_regs (hk (.reg .l) rfl)) (hk .flags rfl))) hc he hx
  | srlMemHl => exact keeps_complete (i := .srlMemHl) h.trans (keeps_taking h.refl h.trans (h.rotateOperand .srl .memHl memHl_regs (hk .flags rfl))) hc he hx
  | srlA => exact keeps_complete (i := .srlA) h.trans (keeps_taking h.refl h.trans (h.rotateOperand .srl (.reg .a) (operand_regs (hk (.reg .a) rfl)) (hk .flags rfl))) hc he hx
  | bit0B => exact keeps_complete (i := .bit0B) h.trans (keeps_taking h.refl h.trans (h.testBit .o0 (.reg .b) (hk .flags rfl))) hc he hx
  | bit0C => exact keeps_complete (i := .bit0C) h.trans (keeps_taking h.refl h.trans (h.testBit .o0 (.reg .c) (hk .flags rfl))) hc he hx
  | bit0D => exact keeps_complete (i := .bit0D) h.trans (keeps_taking h.refl h.trans (h.testBit .o0 (.reg .d) (hk .flags rfl))) hc he hx
  | bit0E => exact keeps_complete (i := .bit0E) h.trans (keeps_taking h.refl h.trans (h.testBit .o0 (.reg .e) (hk .flags rfl))) hc he hx
  | bit0H => exact keeps_complete (i := .bit0H) h.trans (keeps_taking h.refl h.trans (h.testBit .o0 (.reg .h) (hk .flags rfl))) hc he hx
  | bit0L => exact keeps_complete (i := .bit0L) h.trans (keeps_taking h.refl h.trans (h.testBit .o0 (.reg .l) (hk .flags rfl))) hc he hx
  | bit0MemHl => exact keeps_complete (i := .bit0MemHl) h.trans (keeps_taking h.refl h.trans (h.testBit .o0 .memHl (hk .flags rfl))) hc he hx
  | bit0A => exact keeps_complete (i := .bit0A) h.trans (keeps_taking h.refl h.trans (h.testBit .o0 (.reg .a) (hk .flags rfl))) hc he hx
  | bit1B => exact keeps_complete (i := .bit1B) h.trans (keeps_taking h.refl h.trans (h.testBit .o1 (.reg .b) (hk .flags rfl))) hc he hx
  | bit1C => exact keeps_complete (i := .bit1C) h.trans (keeps_taking h.refl h.trans (h.testBit .o1 (.reg .c) (hk .flags rfl))) hc he hx
  | bit1D => exact keeps_complete (i := .bit1D) h.trans (keeps_taking h.refl h.trans (h.testBit .o1 (.reg .d) (hk .flags rfl))) hc he hx
  | bit1E => exact keeps_complete (i := .bit1E) h.trans (keeps_taking h.refl h.trans (h.testBit .o1 (.reg .e) (hk .flags rfl))) hc he hx
  | bit1H => exact keeps_complete (i := .bit1H) h.trans (keeps_taking h.refl h.trans (h.testBit .o1 (.reg .h) (hk .flags rfl))) hc he hx
  | bit1L => exact keeps_complete (i := .bit1L) h.trans (keeps_taking h.refl h.trans (h.testBit .o1 (.reg .l) (hk .flags rfl))) hc he hx
  | bit1MemHl => exact keeps_complete (i := .bit1MemHl) h.trans (keeps_taking h.refl h.trans (h.testBit .o1 .memHl (hk .flags rfl))) hc he hx
  | bit1A => exact keeps_complete (i := .bit1A) h.trans (keeps_taking h.refl h.trans (h.testBit .o1 (.reg .a) (hk .flags rfl))) hc he hx
  | bit2B => exact keeps_complete (i := .bit2B) h.trans (keeps_taking h.refl h.trans (h.testBit .o2 (.reg .b) (hk .flags rfl))) hc he hx
  | bit2C => exact keeps_complete (i := .bit2C) h.trans (keeps_taking h.refl h.trans (h.testBit .o2 (.reg .c) (hk .flags rfl))) hc he hx
  | bit2D => exact keeps_complete (i := .bit2D) h.trans (keeps_taking h.refl h.trans (h.testBit .o2 (.reg .d) (hk .flags rfl))) hc he hx
  | bit2E => exact keeps_complete (i := .bit2E) h.trans (keeps_taking h.refl h.trans (h.testBit .o2 (.reg .e) (hk .flags rfl))) hc he hx
  | bit2H => exact keeps_complete (i := .bit2H) h.trans (keeps_taking h.refl h.trans (h.testBit .o2 (.reg .h) (hk .flags rfl))) hc he hx
  | bit2L => exact keeps_complete (i := .bit2L) h.trans (keeps_taking h.refl h.trans (h.testBit .o2 (.reg .l) (hk .flags rfl))) hc he hx
  | bit2MemHl => exact keeps_complete (i := .bit2MemHl) h.trans (keeps_taking h.refl h.trans (h.testBit .o2 .memHl (hk .flags rfl))) hc he hx
  | bit2A => exact keeps_complete (i := .bit2A) h.trans (keeps_taking h.refl h.trans (h.testBit .o2 (.reg .a) (hk .flags rfl))) hc he hx
  | bit3B => exact keeps_complete (i := .bit3B) h.trans (keeps_taking h.refl h.trans (h.testBit .o3 (.reg .b) (hk .flags rfl))) hc he hx
  | bit3C => exact keeps_complete (i := .bit3C) h.trans (keeps_taking h.refl h.trans (h.testBit .o3 (.reg .c) (hk .flags rfl))) hc he hx
  | bit3D => exact keeps_complete (i := .bit3D) h.trans (keeps_taking h.refl h.trans (h.testBit .o3 (.reg .d) (hk .flags rfl))) hc he hx
  | bit3E => exact keeps_complete (i := .bit3E) h.trans (keeps_taking h.refl h.trans (h.testBit .o3 (.reg .e) (hk .flags rfl))) hc he hx
  | bit3H => exact keeps_complete (i := .bit3H) h.trans (keeps_taking h.refl h.trans (h.testBit .o3 (.reg .h) (hk .flags rfl))) hc he hx
  | bit3L => exact keeps_complete (i := .bit3L) h.trans (keeps_taking h.refl h.trans (h.testBit .o3 (.reg .l) (hk .flags rfl))) hc he hx
  | bit3MemHl => exact keeps_complete (i := .bit3MemHl) h.trans (keeps_taking h.refl h.trans (h.testBit .o3 .memHl (hk .flags rfl))) hc he hx
  | bit3A => exact keeps_complete (i := .bit3A) h.trans (keeps_taking h.refl h.trans (h.testBit .o3 (.reg .a) (hk .flags rfl))) hc he hx
  | bit4B => exact keeps_complete (i := .bit4B) h.trans (keeps_taking h.refl h.trans (h.testBit .o4 (.reg .b) (hk .flags rfl))) hc he hx
  | bit4C => exact keeps_complete (i := .bit4C) h.trans (keeps_taking h.refl h.trans (h.testBit .o4 (.reg .c) (hk .flags rfl))) hc he hx
  | bit4D => exact keeps_complete (i := .bit4D) h.trans (keeps_taking h.refl h.trans (h.testBit .o4 (.reg .d) (hk .flags rfl))) hc he hx
  | bit4E => exact keeps_complete (i := .bit4E) h.trans (keeps_taking h.refl h.trans (h.testBit .o4 (.reg .e) (hk .flags rfl))) hc he hx
  | bit4H => exact keeps_complete (i := .bit4H) h.trans (keeps_taking h.refl h.trans (h.testBit .o4 (.reg .h) (hk .flags rfl))) hc he hx
  | bit4L => exact keeps_complete (i := .bit4L) h.trans (keeps_taking h.refl h.trans (h.testBit .o4 (.reg .l) (hk .flags rfl))) hc he hx
  | bit4MemHl => exact keeps_complete (i := .bit4MemHl) h.trans (keeps_taking h.refl h.trans (h.testBit .o4 .memHl (hk .flags rfl))) hc he hx
  | bit4A => exact keeps_complete (i := .bit4A) h.trans (keeps_taking h.refl h.trans (h.testBit .o4 (.reg .a) (hk .flags rfl))) hc he hx
  | bit5B => exact keeps_complete (i := .bit5B) h.trans (keeps_taking h.refl h.trans (h.testBit .o5 (.reg .b) (hk .flags rfl))) hc he hx
  | bit5C => exact keeps_complete (i := .bit5C) h.trans (keeps_taking h.refl h.trans (h.testBit .o5 (.reg .c) (hk .flags rfl))) hc he hx
  | bit5D => exact keeps_complete (i := .bit5D) h.trans (keeps_taking h.refl h.trans (h.testBit .o5 (.reg .d) (hk .flags rfl))) hc he hx
  | bit5E => exact keeps_complete (i := .bit5E) h.trans (keeps_taking h.refl h.trans (h.testBit .o5 (.reg .e) (hk .flags rfl))) hc he hx
  | bit5H => exact keeps_complete (i := .bit5H) h.trans (keeps_taking h.refl h.trans (h.testBit .o5 (.reg .h) (hk .flags rfl))) hc he hx
  | bit5L => exact keeps_complete (i := .bit5L) h.trans (keeps_taking h.refl h.trans (h.testBit .o5 (.reg .l) (hk .flags rfl))) hc he hx
  | bit5MemHl => exact keeps_complete (i := .bit5MemHl) h.trans (keeps_taking h.refl h.trans (h.testBit .o5 .memHl (hk .flags rfl))) hc he hx
  | bit5A => exact keeps_complete (i := .bit5A) h.trans (keeps_taking h.refl h.trans (h.testBit .o5 (.reg .a) (hk .flags rfl))) hc he hx
  | bit6B => exact keeps_complete (i := .bit6B) h.trans (keeps_taking h.refl h.trans (h.testBit .o6 (.reg .b) (hk .flags rfl))) hc he hx
  | bit6C => exact keeps_complete (i := .bit6C) h.trans (keeps_taking h.refl h.trans (h.testBit .o6 (.reg .c) (hk .flags rfl))) hc he hx
  | bit6D => exact keeps_complete (i := .bit6D) h.trans (keeps_taking h.refl h.trans (h.testBit .o6 (.reg .d) (hk .flags rfl))) hc he hx
  | bit6E => exact keeps_complete (i := .bit6E) h.trans (keeps_taking h.refl h.trans (h.testBit .o6 (.reg .e) (hk .flags rfl))) hc he hx
  | bit6H => exact keeps_complete (i := .bit6H) h.trans (keeps_taking h.refl h.trans (h.testBit .o6 (.reg .h) (hk .flags rfl))) hc he hx
  | bit6L => exact keeps_complete (i := .bit6L) h.trans (keeps_taking h.refl h.trans (h.testBit .o6 (.reg .l) (hk .flags rfl))) hc he hx
  | bit6MemHl => exact keeps_complete (i := .bit6MemHl) h.trans (keeps_taking h.refl h.trans (h.testBit .o6 .memHl (hk .flags rfl))) hc he hx
  | bit6A => exact keeps_complete (i := .bit6A) h.trans (keeps_taking h.refl h.trans (h.testBit .o6 (.reg .a) (hk .flags rfl))) hc he hx
  | bit7B => exact keeps_complete (i := .bit7B) h.trans (keeps_taking h.refl h.trans (h.testBit .o7 (.reg .b) (hk .flags rfl))) hc he hx
  | bit7C => exact keeps_complete (i := .bit7C) h.trans (keeps_taking h.refl h.trans (h.testBit .o7 (.reg .c) (hk .flags rfl))) hc he hx
  | bit7D => exact keeps_complete (i := .bit7D) h.trans (keeps_taking h.refl h.trans (h.testBit .o7 (.reg .d) (hk .flags rfl))) hc he hx
  | bit7E => exact keeps_complete (i := .bit7E) h.trans (keeps_taking h.refl h.trans (h.testBit .o7 (.reg .e) (hk .flags rfl))) hc he hx
  | bit7H => exact keeps_complete (i := .bit7H) h.trans (keeps_taking h.refl h.trans (h.testBit .o7 (.reg .h) (hk .flags rfl))) hc he hx
  | bit7L => exact keeps_complete (i := .bit7L) h.trans (keeps_taking h.refl h.trans (h.testBit .o7 (.reg .l) (hk .flags rfl))) hc he hx
  | bit7MemHl => exact keeps_complete (i := .bit7MemHl) h.trans (keeps_taking h.refl h.trans (h.testBit .o7 .memHl (hk .flags rfl))) hc he hx
  | bit7A => exact keeps_complete (i := .bit7A) h.trans (keeps_taking h.refl h.trans (h.testBit .o7 (.reg .a) (hk .flags rfl))) hc he hx
  | res0B => exact keeps_complete (i := .res0B) h.trans (keeps_taking h.refl h.trans (h.resetBit .o0 (.reg .b) (operand_regs (hk (.reg .b) rfl)))) hc he hx
  | res0C => exact keeps_complete (i := .res0C) h.trans (keeps_taking h.refl h.trans (h.resetBit .o0 (.reg .c) (operand_regs (hk (.reg .c) rfl)))) hc he hx
  | res0D => exact keeps_complete (i := .res0D) h.trans (keeps_taking h.refl h.trans (h.resetBit .o0 (.reg .d) (operand_regs (hk (.reg .d) rfl)))) hc he hx
  | res0E => exact keeps_complete (i := .res0E) h.trans (keeps_taking h.refl h.trans (h.resetBit .o0 (.reg .e) (operand_regs (hk (.reg .e) rfl)))) hc he hx
  | res0H => exact keeps_complete (i := .res0H) h.trans (keeps_taking h.refl h.trans (h.resetBit .o0 (.reg .h) (operand_regs (hk (.reg .h) rfl)))) hc he hx
  | res0L => exact keeps_complete (i := .res0L) h.trans (keeps_taking h.refl h.trans (h.resetBit .o0 (.reg .l) (operand_regs (hk (.reg .l) rfl)))) hc he hx
  | res0MemHl => exact keeps_complete (i := .res0MemHl) h.trans (keeps_taking h.refl h.trans (h.resetBit .o0 .memHl memHl_regs)) hc he hx
  | res0A => exact keeps_complete (i := .res0A) h.trans (keeps_taking h.refl h.trans (h.resetBit .o0 (.reg .a) (operand_regs (hk (.reg .a) rfl)))) hc he hx
  | res1B => exact keeps_complete (i := .res1B) h.trans (keeps_taking h.refl h.trans (h.resetBit .o1 (.reg .b) (operand_regs (hk (.reg .b) rfl)))) hc he hx
  | res1C => exact keeps_complete (i := .res1C) h.trans (keeps_taking h.refl h.trans (h.resetBit .o1 (.reg .c) (operand_regs (hk (.reg .c) rfl)))) hc he hx
  | res1D => exact keeps_complete (i := .res1D) h.trans (keeps_taking h.refl h.trans (h.resetBit .o1 (.reg .d) (operand_regs (hk (.reg .d) rfl)))) hc he hx
  | res1E => exact keeps_complete (i := .res1E) h.trans (keeps_taking h.refl h.trans (h.resetBit .o1 (.reg .e) (operand_regs (hk (.reg .e) rfl)))) hc he hx
  | res1H => exact keeps_complete (i := .res1H) h.trans (keeps_taking h.refl h.trans (h.resetBit .o1 (.reg .h) (operand_regs (hk (.reg .h) rfl)))) hc he hx
  | res1L => exact keeps_complete (i := .res1L) h.trans (keeps_taking h.refl h.trans (h.resetBit .o1 (.reg .l) (operand_regs (hk (.reg .l) rfl)))) hc he hx
  | res1MemHl => exact keeps_complete (i := .res1MemHl) h.trans (keeps_taking h.refl h.trans (h.resetBit .o1 .memHl memHl_regs)) hc he hx
  | res1A => exact keeps_complete (i := .res1A) h.trans (keeps_taking h.refl h.trans (h.resetBit .o1 (.reg .a) (operand_regs (hk (.reg .a) rfl)))) hc he hx
  | res2B => exact keeps_complete (i := .res2B) h.trans (keeps_taking h.refl h.trans (h.resetBit .o2 (.reg .b) (operand_regs (hk (.reg .b) rfl)))) hc he hx
  | res2C => exact keeps_complete (i := .res2C) h.trans (keeps_taking h.refl h.trans (h.resetBit .o2 (.reg .c) (operand_regs (hk (.reg .c) rfl)))) hc he hx
  | res2D => exact keeps_complete (i := .res2D) h.trans (keeps_taking h.refl h.trans (h.resetBit .o2 (.reg .d) (operand_regs (hk (.reg .d) rfl)))) hc he hx
  | res2E => exact keeps_complete (i := .res2E) h.trans (keeps_taking h.refl h.trans (h.resetBit .o2 (.reg .e) (operand_regs (hk (.reg .e) rfl)))) hc he hx
  | res2H => exact keeps_complete (i := .res2H) h.trans (keeps_taking h.refl h.trans (h.resetBit .o2 (.reg .h) (operand_regs (hk (.reg .h) rfl)))) hc he hx
  | res2L => exact keeps_complete (i := .res2L) h.trans (keeps_taking h.refl h.trans (h.resetBit .o2 (.reg .l) (operand_regs (hk (.reg .l) rfl)))) hc he hx
  | res2MemHl => exact keeps_complete (i := .res2MemHl) h.trans (keeps_taking h.refl h.trans (h.resetBit .o2 .memHl memHl_regs)) hc he hx
  | res2A => exact keeps_complete (i := .res2A) h.trans (keeps_taking h.refl h.trans (h.resetBit .o2 (.reg .a) (operand_regs (hk (.reg .a) rfl)))) hc he hx
  | res3B => exact keeps_complete (i := .res3B) h.trans (keeps_taking h.refl h.trans (h.resetBit .o3 (.reg .b) (operand_regs (hk (.reg .b) rfl)))) hc he hx
  | res3C => exact keeps_complete (i := .res3C) h.trans (keeps_taking h.refl h.trans (h.resetBit .o3 (.reg .c) (operand_regs (hk (.reg .c) rfl)))) hc he hx
  | res3D => exact keeps_complete (i := .res3D) h.trans (keeps_taking h.refl h.trans (h.resetBit .o3 (.reg .d) (operand_regs (hk (.reg .d) rfl)))) hc he hx
  | res3E => exact keeps_complete (i := .res3E) h.trans (keeps_taking h.refl h.trans (h.resetBit .o3 (.reg .e) (operand_regs (hk (.reg .e) rfl)))) hc he hx
  | res3H => exact keeps_complete (i := .res3H) h.trans (keeps_taking h.refl h.trans (h.resetBit .o3 (.reg .h) (operand_regs (hk (.reg .h) rfl)))) hc he hx
  | res3L => exact keeps_complete (i := .res3L) h.trans (keeps_taking h.refl h.trans (h.resetBit .o3 (.reg .l) (operand_regs (hk (.reg .l) rfl)))) hc he hx
  | res3MemHl => exact keeps_complete (i := .res3MemHl) h.trans (keeps_taking h.refl h.trans (h.resetBit .o3 .memHl memHl_regs)) hc he hx
  | res3A => exact keeps_complete (i := .res3A) h.trans (keeps_taking h.refl h.trans (h.resetBit .o3 (.reg .a) (operand_regs (hk (.reg .a) rfl)))) hc he hx
  | res4B => exact keeps_complete (i := .res4B) h.trans (keeps_taking h.refl h.trans (h.resetBit .o4 (.reg .b) (operand_regs (hk (.reg .b) rfl)))) hc he hx
  | res4C => exact keeps_complete (i := .res4C) h.trans (keeps_taking h.refl h.trans (h.resetBit .o4 (.reg .c) (operand_regs (hk (.reg .c) rfl)))) hc he hx
  | res4D => exact keeps_complete (i := .res4D) h.trans (keeps_taking h.refl h.trans (h.resetBit .o4 (.reg .d) (operand_regs (hk (.reg .d) rfl)))) hc he hx
  | res4E => exact keeps_complete (i := .res4E) h.trans (keeps_taking h.refl h.trans (h.resetBit .o4 (.reg .e) (operand_regs (hk (.reg .e) rfl)))) hc he hx
  | res4H => exact keeps_complete (i := .res4H) h.trans (keeps_taking h.refl h.trans (h.resetBit .o4 (.reg .h) (operand_regs (hk (.reg .h) rfl)))) hc he hx
  | res4L => exact keeps_complete (i := .res4L) h.trans (keeps_taking h.refl h.trans (h.resetBit .o4 (.reg .l) (operand_regs (hk (.reg .l) rfl)))) hc he hx
  | res4MemHl => exact keeps_complete (i := .res4MemHl) h.trans (keeps_taking h.refl h.trans (h.resetBit .o4 .memHl memHl_regs)) hc he hx
  | res4A => exact keeps_complete (i := .res4A) h.trans (keeps_taking h.refl h.trans (h.resetBit .o4 (.reg .a) (operand_regs (hk (.reg .a) rfl)))) hc he hx
  | res5B => exact keeps_complete (i := .res5B) h.trans (keeps_taking h.refl h.trans (h.resetBit .o5 (.reg .b) (operand_regs (hk (.reg .b) rfl)))) hc he hx
  | res5C => exact keeps_complete (i := .res5C) h.trans (keeps_taking h.refl h.trans (h.resetBit .o5 (.reg .c) (operand_regs (hk (.reg .c) rfl)))) hc he hx
  | res5D => exact keeps_complete (i := .res5D) h.trans (keeps_taking h.refl h.trans (h.resetBit .o5 (.reg .d) (operand_regs (hk (.reg .d) rfl)))) hc he hx
  | res5E => exact keeps_complete (i := .res5E) h.trans (keeps_taking h.refl h.trans (h.resetBit .o5 (.reg .e) (operand_regs (hk (.reg .e) rfl)))) hc he hx
  | res5H => exact keeps_complete (i := .res5H) h.trans (keeps_taking h.refl h.trans (h.resetBit .o5 (.reg .h) (operand_regs (hk (.reg .h) rfl)))) hc he hx
  | res5L => exact keeps_complete (i := .res5L) h.trans (keeps_taking h.refl h.trans (h.resetBit .o5 (.reg .l) (operand_regs (hk (.reg .l) rfl)))) hc he hx
  | res5MemHl => exact keeps_complete (i := .res5MemHl) h.trans (keeps_taking h.refl h.trans (h.resetBit .o5 .memHl memHl_regs)) hc he hx
  | res5A => exact keeps_complete (i := .res5A) h.trans (keeps_taking h.refl h.trans (h.resetBit .o5 (.reg .a) (operand_regs (hk (.reg .a) rfl)))) hc he hx
  | res6B => exact keeps_complete (i := .res6B) h.trans (keeps_taking h.refl h.trans (h.resetBit .o6 (.reg .b) (operand_regs (hk (.reg .b) rfl)))) hc he hx
  | res6C => exact keeps_complete (i := .res6C) h.trans (keeps_taking h.refl h.trans (h.resetBit .o6 (.reg .c) (operand_regs (hk (.reg .c) rfl)))) hc he hx
  | res6D => exact keeps_complete (i := .res6D) h.trans (keeps_taking h.refl h.trans (h.resetBit .o6 (.reg .d) (operand_regs (hk (.reg .d) rfl)))) hc he hx
  | res6E => exact keeps_complete (i := .res6E) h.trans (keeps_taking h.refl h.trans (h.resetBit .o6 (.reg .e) (operand_regs (hk (.reg .e) rfl)))) hc he hx
  | res6H => exact keeps_complete (i := .res6H) h.trans (keeps_taking h.refl h.trans (h.resetBit .o6 (.reg .h) (operand_regs (hk (.reg .h) rfl)))) hc he hx
  | res6L => exact keeps_complete (i := .res6L) h.trans (keeps_taking h.refl h.trans (h.resetBit .o6 (.reg .l) (operand_regs (hk (.reg .l) rfl)))) hc he hx
  | res6MemHl => exact keeps_complete (i := .res6MemHl) h.trans (keeps_taking h.refl h.trans (h.resetBit .o6 .memHl memHl_regs)) hc he hx
  | res6A => exact keeps_complete (i := .res6A) h.trans (keeps_taking h.refl h.trans (h.resetBit .o6 (.reg .a) (operand_regs (hk (.reg .a) rfl)))) hc he hx
  | res7B => exact keeps_complete (i := .res7B) h.trans (keeps_taking h.refl h.trans (h.resetBit .o7 (.reg .b) (operand_regs (hk (.reg .b) rfl)))) hc he hx
  | res7C => exact keeps_complete (i := .res7C) h.trans (keeps_taking h.refl h.trans (h.resetBit .o7 (.reg .c) (operand_regs (hk (.reg .c) rfl)))) hc he hx
  | res7D => exact keeps_complete (i := .res7D) h.trans (keeps_taking h.refl h.trans (h.resetBit .o7 (.reg .d) (operand_regs (hk (.reg .d) rfl)))) hc he hx
  | res7E => exact keeps_complete (i := .res7E) h.trans (keeps_taking h.refl h.trans (h.resetBit .o7 (.reg .e) (operand_regs (hk (.reg .e) rfl)))) hc he hx
  | res7H => exact keeps_complete (i := .res7H) h.trans (keeps_taking h.refl h.trans (h.resetBit .o7 (.reg .h) (operand_regs (hk (.reg .h) rfl)))) hc he hx
  | res7L => exact keeps_complete (i := .res7L) h.trans (keeps_taking h.refl h.trans (h.resetBit .o7 (.reg .l) (operand_regs (hk (.reg .l) rfl)))) hc he hx
  | res7MemHl => exact keeps_complete (i := .res7MemHl) h.trans (keeps_taking h.refl h.trans (h.resetBit .o7 .memHl memHl_regs)) hc he hx
  | res7A => exact keeps_complete (i := .res7A) h.trans (keeps_taking h.refl h.trans (h.resetBit .o7 (.reg .a) (operand_regs (hk (.reg .a) rfl)))) hc he hx
  | set0B => exact keeps_complete (i := .set0B) h.trans (keeps_taking h.refl h.trans (h.setBit .o0 (.reg .b) (operand_regs (hk (.reg .b) rfl)))) hc he hx
  | set0C => exact keeps_complete (i := .set0C) h.trans (keeps_taking h.refl h.trans (h.setBit .o0 (.reg .c) (operand_regs (hk (.reg .c) rfl)))) hc he hx
  | set0D => exact keeps_complete (i := .set0D) h.trans (keeps_taking h.refl h.trans (h.setBit .o0 (.reg .d) (operand_regs (hk (.reg .d) rfl)))) hc he hx
  | set0E => exact keeps_complete (i := .set0E) h.trans (keeps_taking h.refl h.trans (h.setBit .o0 (.reg .e) (operand_regs (hk (.reg .e) rfl)))) hc he hx
  | set0H => exact keeps_complete (i := .set0H) h.trans (keeps_taking h.refl h.trans (h.setBit .o0 (.reg .h) (operand_regs (hk (.reg .h) rfl)))) hc he hx
  | set0L => exact keeps_complete (i := .set0L) h.trans (keeps_taking h.refl h.trans (h.setBit .o0 (.reg .l) (operand_regs (hk (.reg .l) rfl)))) hc he hx
  | set0MemHl => exact keeps_complete (i := .set0MemHl) h.trans (keeps_taking h.refl h.trans (h.setBit .o0 .memHl memHl_regs)) hc he hx
  | set0A => exact keeps_complete (i := .set0A) h.trans (keeps_taking h.refl h.trans (h.setBit .o0 (.reg .a) (operand_regs (hk (.reg .a) rfl)))) hc he hx
  | set1B => exact keeps_complete (i := .set1B) h.trans (keeps_taking h.refl h.trans (h.setBit .o1 (.reg .b) (operand_regs (hk (.reg .b) rfl)))) hc he hx
  | set1C => exact keeps_complete (i := .set1C) h.trans (keeps_taking h.refl h.trans (h.setBit .o1 (.reg .c) (operand_regs (hk (.reg .c) rfl)))) hc he hx
  | set1D => exact keeps_complete (i := .set1D) h.trans (keeps_taking h.refl h.trans (h.setBit .o1 (.reg .d) (operand_regs (hk (.reg .d) rfl)))) hc he hx
  | set1E => exact keeps_complete (i := .set1E) h.trans (keeps_taking h.refl h.trans (h.setBit .o1 (.reg .e) (operand_regs (hk (.reg .e) rfl)))) hc he hx
  | set1H => exact keeps_complete (i := .set1H) h.trans (keeps_taking h.refl h.trans (h.setBit .o1 (.reg .h) (operand_regs (hk (.reg .h) rfl)))) hc he hx
  | set1L => exact keeps_complete (i := .set1L) h.trans (keeps_taking h.refl h.trans (h.setBit .o1 (.reg .l) (operand_regs (hk (.reg .l) rfl)))) hc he hx
  | set1MemHl => exact keeps_complete (i := .set1MemHl) h.trans (keeps_taking h.refl h.trans (h.setBit .o1 .memHl memHl_regs)) hc he hx
  | set1A => exact keeps_complete (i := .set1A) h.trans (keeps_taking h.refl h.trans (h.setBit .o1 (.reg .a) (operand_regs (hk (.reg .a) rfl)))) hc he hx
  | set2B => exact keeps_complete (i := .set2B) h.trans (keeps_taking h.refl h.trans (h.setBit .o2 (.reg .b) (operand_regs (hk (.reg .b) rfl)))) hc he hx
  | set2C => exact keeps_complete (i := .set2C) h.trans (keeps_taking h.refl h.trans (h.setBit .o2 (.reg .c) (operand_regs (hk (.reg .c) rfl)))) hc he hx
  | set2D => exact keeps_complete (i := .set2D) h.trans (keeps_taking h.refl h.trans (h.setBit .o2 (.reg .d) (operand_regs (hk (.reg .d) rfl)))) hc he hx
  | set2E => exact keeps_complete (i := .set2E) h.trans (keeps_taking h.refl h.trans (h.setBit .o2 (.reg .e) (operand_regs (hk (.reg .e) rfl)))) hc he hx
  | set2H => exact keeps_complete (i := .set2H) h.trans (keeps_taking h.refl h.trans (h.setBit .o2 (.reg .h) (operand_regs (hk (.reg .h) rfl)))) hc he hx
  | set2L => exact keeps_complete (i := .set2L) h.trans (keeps_taking h.refl h.trans (h.setBit .o2 (.reg .l) (operand_regs (hk (.reg .l) rfl)))) hc he hx
  | set2MemHl => exact keeps_complete (i := .set2MemHl) h.trans (keeps_taking h.refl h.trans (h.setBit .o2 .memHl memHl_regs)) hc he hx
  | set2A => exact keeps_complete (i := .set2A) h.trans (keeps_taking h.refl h.trans (h.setBit .o2 (.reg .a) (operand_regs (hk (.reg .a) rfl)))) hc he hx
  | set3B => exact keeps_complete (i := .set3B) h.trans (keeps_taking h.refl h.trans (h.setBit .o3 (.reg .b) (operand_regs (hk (.reg .b) rfl)))) hc he hx
  | set3C => exact keeps_complete (i := .set3C) h.trans (keeps_taking h.refl h.trans (h.setBit .o3 (.reg .c) (operand_regs (hk (.reg .c) rfl)))) hc he hx
  | set3D => exact keeps_complete (i := .set3D) h.trans (keeps_taking h.refl h.trans (h.setBit .o3 (.reg .d) (operand_regs (hk (.reg .d) rfl)))) hc he hx
  | set3E => exact keeps_complete (i := .set3E) h.trans (keeps_taking h.refl h.trans (h.setBit .o3 (.reg .e) (operand_regs (hk (.reg .e) rfl)))) hc he hx
  | set3H => exact keeps_complete (i := .set3H) h.trans (keeps_taking h.refl h.trans (h.setBit .o3 (.reg .h) (operand_regs (hk (.reg .h) rfl)))) hc he hx
  | set3L => exact keeps_complete (i := .set3L) h.trans (keeps_taking h.refl h.trans (h.setBit .o3 (.reg .l) (operand_regs (hk (.reg .l) rfl)))) hc he hx
  | set3MemHl => exact keeps_complete (i := .set3MemHl) h.trans (keeps_taking h.refl h.trans (h.setBit .o3 .memHl memHl_regs)) hc he hx
  | set3A => exact keeps_complete (i := .set3A) h.trans (keeps_taking h.refl h.trans (h.setBit .o3 (.reg .a) (operand_regs (hk (.reg .a) rfl)))) hc he hx
  | set4B => exact keeps_complete (i := .set4B) h.trans (keeps_taking h.refl h.trans (h.setBit .o4 (.reg .b) (operand_regs (hk (.reg .b) rfl)))) hc he hx
  | set4C => exact keeps_complete (i := .set4C) h.trans (keeps_taking h.refl h.trans (h.setBit .o4 (.reg .c) (operand_regs (hk (.reg .c) rfl)))) hc he hx
  | set4D => exact keeps_complete (i := .set4D) h.trans (keeps_taking h.refl h.trans (h.setBit .o4 (.reg .d) (operand_regs (hk (.reg .d) rfl)))) hc he hx
  | set4E => exact keeps_complete (i := .set4E) h.trans (keeps_taking h.refl h.trans (h.setBit .o4 (.reg .e) (operand_regs (hk (.reg .e) rfl)))) hc he hx
  | set4H => exact keeps_complete (i := .set4H) h.trans (keeps_taking h.refl h.trans (h.setBit .o4 (.reg .h) (operand_regs (hk (.reg .h) rfl)))) hc he hx
  | set4L => exact keeps_complete (i := .set4L) h.trans (keeps_taking h.refl h.trans (h.setBit .o4 (.reg .l) (operand_regs (hk (.reg .l) rfl)))) hc he hx
  | set4MemHl => exact keeps_complete (i := .set4MemHl) h.trans (keeps_taking h.refl h.trans (h.setBit .o4 .memHl memHl_regs)) hc he hx
  | set4A => exact keeps_complete (i := .set4A) h.trans (keeps_taking h.refl h.trans (h.setBit .o4 (.reg .a) (operand_regs (hk (.reg .a) rfl)))) hc he hx
  | set5B => exact keeps_complete (i := .set5B) h.trans (keeps_taking h.refl h.trans (h.setBit .o5 (.reg .b) (operand_regs (hk (.reg .b) rfl)))) hc he hx
  | set5C => exact keeps_complete (i := .set5C) h.trans (keeps_taking h.refl h.trans (h.setBit .o5 (.reg .c) (operand_regs (hk (.reg .c) rfl)))) hc he hx
  | set5D => exact keeps_complete (i := .set5D) h.trans (keeps_taking h.refl h.trans (h.setBit .o5 (.reg .d) (operand_regs (hk (.reg .d) rfl)))) hc he hx
  | set5E => exact keeps_complete (i := .set5E) h.trans (keeps_taking h.refl h.trans (h.setBit .o5 (.reg .e) (operand_regs (hk (.reg .e) rfl)))) hc he hx
  | set5H => exact keeps_complete (i := .set5H) h.trans (keeps_taking h.refl h.trans (h.setBit .o5 (.reg .h) (operand_regs (hk (.reg .h) rfl)))) hc he hx
  | set5L => exact keeps_complete (i := .set5L) h.trans (keeps_taking h.refl h.trans (h.setBit .o5 (.reg .l) (operand_regs (hk (.reg .l) rfl)))) hc he hx
  | set5MemHl => exact keeps_complete (i := .set5MemHl) h.trans (keeps_taking h.refl h.trans (h.setBit .o5 .memHl memHl_regs)) hc he hx
  | set5A => exact keeps_complete (i := .set5A) h.trans (keeps_taking h.refl h.trans (h.setBit .o5 (.reg .a) (operand_regs (hk (.reg .a) rfl)))) hc he hx
  | set6B => exact keeps_complete (i := .set6B) h.trans (keeps_taking h.refl h.trans (h.setBit .o6 (.reg .b) (operand_regs (hk (.reg .b) rfl)))) hc he hx
  | set6C => exact keeps_complete (i := .set6C) h.trans (keeps_taking h.refl h.trans (h.setBit .o6 (.reg .c) (operand_regs (hk (.reg .c) rfl)))) hc he hx
  | set6D => exact keeps_complete (i := .set6D) h.trans (keeps_taking h.refl h.trans (h.setBit .o6 (.reg .d) (operand_regs (hk (.reg .d) rfl)))) hc he hx
  | set6E => exact keeps_complete (i := .set6E) h.trans (keeps_taking h.refl h.trans (h.setBit .o6 (.reg .e) (operand_regs (hk (.reg .e) rfl)))) hc he hx
  | set6H => exact keeps_complete (i := .set6H) h.trans (keeps_taking h.refl h.trans (h.setBit .o6 (.reg .h) (operand_regs (hk (.reg .h) rfl)))) hc he hx
  | set6L => exact keeps_complete (i := .set6L) h.trans (keeps_taking h.refl h.trans (h.setBit .o6 (.reg .l) (operand_regs (hk (.reg .l) rfl)))) hc he hx
  | set6MemHl => exact keeps_complete (i := .set6MemHl) h.trans (keeps_taking h.refl h.trans (h.setBit .o6 .memHl memHl_regs)) hc he hx
  | set6A => exact keeps_complete (i := .set6A) h.trans (keeps_taking h.refl h.trans (h.setBit .o6 (.reg .a) (operand_regs (hk (.reg .a) rfl)))) hc he hx
  | set7B => exact keeps_complete (i := .set7B) h.trans (keeps_taking h.refl h.trans (h.setBit .o7 (.reg .b) (operand_regs (hk (.reg .b) rfl)))) hc he hx
  | set7C => exact keeps_complete (i := .set7C) h.trans (keeps_taking h.refl h.trans (h.setBit .o7 (.reg .c) (operand_regs (hk (.reg .c) rfl)))) hc he hx
  | set7D => exact keeps_complete (i := .set7D) h.trans (keeps_taking h.refl h.trans (h.setBit .o7 (.reg .d) (operand_regs (hk (.reg .d) rfl)))) hc he hx
  | set7E => exact keeps_complete (i := .set7E) h.trans (keeps_taking h.refl h.trans (h.setBit .o7 (.reg .e) (operand_regs (hk (.reg .e) rfl)))) hc he hx
  | set7H => exact keeps_complete (i := .set7H) h.trans (keeps_taking h.refl h.trans (h.setBit .o7 (.reg .h) (operand_regs (hk (.reg .h) rfl)))) hc he hx
  | set7L => exact keeps_complete (i := .set7L) h.trans (keeps_taking h.refl h.trans (h.setBit .o7 (.reg .l) (operand_regs (hk (.reg .l) rfl)))) hc he hx
  | set7MemHl => exact keeps_complete (i := .set7MemHl) h.trans (keeps_taking h.refl h.trans (h.setBit .o7 .memHl memHl_regs)) hc he hx
  | set7A => exact keeps_complete (i := .set7A) h.trans (keeps_taking h.refl h.trans (h.setBit .o7 (.reg .a) (operand_regs (hk (.reg .a) rfl)))) hc he hx

/-- All that a step can do. -/
theorem keeps_step (h : KeptByAccess R) (hc : ∀ s n, R s (State.addCycles s n))
    (he : ∀ s why pc op, R s (State.endRun s why pc op)) (hk : ∀ p, KeptBy R p) {s t : State}
    (hx : step s = .next t) : R s t := by
  simp only [step] at hx
  split at hx
  · have h1 := h.fetch8 (hk .pc) s
    split at hx
    · rename_i why s1 hs1
      rw [hs1] at h1
      rw [Host.Outcome.next.injEq] at hx
      exact hx ▸ h.trans _ _ _ h1 (he _ _ _ _)
    · rename_i op s1 hs1
      rw [hs1] at h1
      have h2 := h.fetchRest (hk .pc) op s1
      split at hx
      · rename_i why s2 hs2
        rw [hs2] at h2
        rw [Host.Outcome.next.injEq] at hx
        exact hx ▸ h.trans _ _ _ h1 (h.trans _ _ _ h2 (he _ _ _ _))
      · rename_i i s2 hs2
        rw [hs2] at h2
        exact h.trans _ _ _ h1 (h.trans _ _ _ h2 (keeps_exec h hc he i (fun p _ => hk p) hx))
  · rw [Host.Outcome.next.injEq] at hx
    exact hx ▸ h.refl s

end Exec

end Sys2Proof.Machine
end

