-- ==== Sys2Proof/Laws/PerInstr.lean ====
section
/-! SUPPORT. The per-instruction family Length (30_encoding.md R180, R196): an instruction has 1 to 3 bytes,
and its first byte alone says how many more the decoder takes. -/

namespace Sys2Proof.Laws

/-- How many bytes follow a first byte of this shape. -/
def moreBytes : Shape → Nat
  | .done _ => 0
  | .imm8 _ => 1
  | .imm16 _ => 2
  | .extended => 1

/-- The instruction has 1 to 3 bytes, as many as its first byte asks for. -/
def Length.Statement (i : Instr) : Prop :=
  1 ≤ i.length ∧ i.length ≤ 3 ∧ i.length = 1 + moreBytes (decodeOp ((encode i).headD 0x00#8))

theorem Length.ldBcD16 (v : Word) : Length.Statement (.ldBcD16 v) := by
  refine ⟨Nat.le_of_ble_eq_true rfl, Nat.le_of_ble_eq_true rfl, ?_⟩
  show 3 = 1 + moreBytes (decodeOp 0x01#8)
  decide

theorem Length.ldBD8 (n : Byte) : Length.Statement (.ldBD8 n) := by
  refine ⟨Nat.le_of_ble_eq_true rfl, Nat.le_of_ble_eq_true rfl, ?_⟩
  show 2 = 1 + moreBytes (decodeOp 0x06#8)
  decide

theorem Length.ldMemA16Sp (addr : Word) : Length.Statement (.ldMemA16Sp addr) := by
  refine ⟨Nat.le_of_ble_eq_true rfl, Nat.le_of_ble_eq_true rfl, ?_⟩
  show 3 = 1 + moreBytes (decodeOp 0x08#8)
  decide

theorem Length.ldCD8 (n : Byte) : Length.Statement (.ldCD8 n) := by
  refine ⟨Nat.le_of_ble_eq_true rfl, Nat.le_of_ble_eq_true rfl, ?_⟩
  show 2 = 1 + moreBytes (decodeOp 0x0E#8)
  decide

theorem Length.stop (ignored : Byte) : Length.Statement (.stop ignored) := by
  refine ⟨Nat.le_of_ble_eq_true rfl, Nat.le_of_ble_eq_true rfl, ?_⟩
  show 2 = 1 + moreBytes (decodeOp 0x10#8)
  decide

theorem Length.ldDeD16 (v : Word) : Length.Statement (.ldDeD16 v) := by
  refine ⟨Nat.le_of_ble_eq_true rfl, Nat.le_of_ble_eq_true rfl, ?_⟩
  show 3 = 1 + moreBytes (decodeOp 0x11#8)
  decide

theorem Length.ldDD8 (n : Byte) : Length.Statement (.ldDD8 n) := by
  refine ⟨Nat.le_of_ble_eq_true rfl, Nat.le_of_ble_eq_true rfl, ?_⟩
  show 2 = 1 + moreBytes (decodeOp 0x16#8)
  decide

theorem Length.jrE8 (e : Byte) : Length.Statement (.jrE8 e) := by
  refine ⟨Nat.le_of_ble_eq_true rfl, Nat.le_of_ble_eq_true rfl, ?_⟩
  show 2 = 1 + moreBytes (decodeOp 0x18#8)
  decide

theorem Length.ldED8 (n : Byte) : Length.Statement (.ldED8 n) := by
  refine ⟨Nat.le_of_ble_eq_true rfl, Nat.le_of_ble_eq_true rfl, ?_⟩
  show 2 = 1 + moreBytes (decodeOp 0x1E#8)
  decide

theorem Length.jrNzE8 (e : Byte) : Length.Statement (.jrNzE8 e) := by
  refine ⟨Nat.le_of_ble_eq_true rfl, Nat.le_of_ble_eq_true rfl, ?_⟩
  show 2 = 1 + moreBytes (decodeOp 0x20#8)
  decide

theorem Length.ldHlD16 (v : Word) : Length.Statement (.ldHlD16 v) := by
  refine ⟨Nat.le_of_ble_eq_true rfl, Nat.le_of_ble_eq_true rfl, ?_⟩
  show 3 = 1 + moreBytes (decodeOp 0x21#8)
  decide

theorem Length.ldHD8 (n : Byte) : Length.Statement (.ldHD8 n) := by
  refine ⟨Nat.le_of_ble_eq_true rfl, Nat.le_of_ble_eq_true rfl, ?_⟩
  show 2 = 1 + moreBytes (decodeOp 0x26#8)
  decide

theorem Length.jrZE8 (e : Byte) : Length.Statement (.jrZE8 e) := by
  refine ⟨Nat.le_of_ble_eq_true rfl, Nat.le_of_ble_eq_true rfl, ?_⟩
  show 2 = 1 + moreBytes (decodeOp 0x28#8)
  decide

theorem Length.ldLD8 (n : Byte) : Length.Statement (.ldLD8 n) := by
  refine ⟨Nat.le_of_ble_eq_true rfl, Nat.le_of_ble_eq_true rfl, ?_⟩
  show 2 = 1 + moreBytes (decodeOp 0x2E#8)
  decide

theorem Length.jrNcE8 (e : Byte) : Length.Statement (.jrNcE8 e) := by
  refine ⟨Nat.le_of_ble_eq_true rfl, Nat.le_of_ble_eq_true rfl, ?_⟩
  show 2 = 1 + moreBytes (decodeOp 0x30#8)
  decide

theorem Length.ldSpD16 (v : Word) : Length.Statement (.ldSpD16 v) := by
  refine ⟨Nat.le_of_ble_eq_true rfl, Nat.le_of_ble_eq_true rfl, ?_⟩
  show 3 = 1 + moreBytes (decodeOp 0x31#8)
  decide

theorem Length.ldMemHlD8 (n : Byte) : Length.Statement (.ldMemHlD8 n) := by
  refine ⟨Nat.le_of_ble_eq_true rfl, Nat.le_of_ble_eq_true rfl, ?_⟩
  show 2 = 1 + moreBytes (decodeOp 0x36#8)
  decide

theorem Length.jrCE8 (e : Byte) : Length.Statement (.jrCE8 e) := by
  refine ⟨Nat.le_of_ble_eq_true rfl, Nat.le_of_ble_eq_true rfl, ?_⟩
  show 2 = 1 + moreBytes (decodeOp 0x38#8)
  decide

theorem Length.ldAD8 (n : Byte) : Length.Statement (.ldAD8 n) := by
  refine ⟨Nat.le_of_ble_eq_true rfl, Nat.le_of_ble_eq_true rfl, ?_⟩
  show 2 = 1 + moreBytes (decodeOp 0x3E#8)
  decide

theorem Length.jpNzA16 (addr : Word) : Length.Statement (.jpNzA16 addr) := by
  refine ⟨Nat.le_of_ble_eq_true rfl, Nat.le_of_ble_eq_true rfl, ?_⟩
  show 3 = 1 + moreBytes (decodeOp 0xC2#8)
  decide

theorem Length.jpA16 (addr : Word) : Length.Statement (.jpA16 addr) := by
  refine ⟨Nat.le_of_ble_eq_true rfl, Nat.le_of_ble_eq_true rfl, ?_⟩
  show 3 = 1 + moreBytes (decodeOp 0xC3#8)
  decide

theorem Length.callNzA16 (addr : Word) : Length.Statement (.callNzA16 addr) := by
  refine ⟨Nat.le_of_ble_eq_true rfl, Nat.le_of_ble_eq_true rfl, ?_⟩
  show 3 = 1 + moreBytes (decodeOp 0xC4#8)
  decide

theorem Length.addAD8 (n : Byte) : Length.Statement (.addAD8 n) := by
  refine ⟨Nat.le_of_ble_eq_true rfl, Nat.le_of_ble_eq_true rfl, ?_⟩
  show 2 = 1 + moreBytes (decodeOp 0xC6#8)
  decide

theorem Length.jpZA16 (addr : Word) : Length.Statement (.jpZA16 addr) := by
  refine ⟨Nat.le_of_ble_eq_true rfl, Nat.le_of_ble_eq_true rfl, ?_⟩
  show 3 = 1 + moreBytes (decodeOp 0xCA#8)
  decide

theorem Length.prefixCb (cb : Byte) : Length.Statement (.prefixCb cb) := by
  refine ⟨Nat.le_of_ble_eq_true rfl, Nat.le_of_ble_eq_true rfl, ?_⟩
  show 2 = 1 + moreBytes (decodeOp 0xCB#8)
  decide

theorem Length.callZA16 (addr : Word) : Length.Statement (.callZA16 addr) := by
  refine ⟨Nat.le_of_ble_eq_true rfl, Nat.le_of_ble_eq_true rfl, ?_⟩
  show 3 = 1 + moreBytes (decodeOp 0xCC#8)
  decide

theorem Length.callA16 (addr : Word) : Length.Statement (.callA16 addr) := by
  refine ⟨Nat.le_of_ble_eq_true rfl, Nat.le_of_ble_eq_true rfl, ?_⟩
  show 3 = 1 + moreBytes (decodeOp 0xCD#8)
  decide

theorem Length.adcAD8 (n : Byte) : Length.Statement (.adcAD8 n) := by
  refine ⟨Nat.le_of_ble_eq_true rfl, Nat.le_of_ble_eq_true rfl, ?_⟩
  show 2 = 1 + moreBytes (decodeOp 0xCE#8)
  decide

theorem Length.jpNcA16 (addr : Word) : Length.Statement (.jpNcA16 addr) := by
  refine ⟨Nat.le_of_ble_eq_true rfl, Nat.le_of_ble_eq_true rfl, ?_⟩
  show 3 = 1 + moreBytes (decodeOp 0xD2#8)
  decide

theorem Length.callNcA16 (addr : Word) : Length.Statement (.callNcA16 addr) := by
  refine ⟨Nat.le_of_ble_eq_true rfl, Nat.le_of_ble_eq_true rfl, ?_⟩
  show 3 = 1 + moreBytes (decodeOp 0xD4#8)
  decide

theorem Length.subD8 (n : Byte) : Length.Statement (.subD8 n) := by
  refine ⟨Nat.le_of_ble_eq_true rfl, Nat.le_of_ble_eq_true rfl, ?_⟩
  show 2 = 1 + moreBytes (decodeOp 0xD6#8)
  decide

theorem Length.jpCA16 (addr : Word) : Length.Statement (.jpCA16 addr) := by
  refine ⟨Nat.le_of_ble_eq_true rfl, Nat.le_of_ble_eq_true rfl, ?_⟩
  show 3 = 1 + moreBytes (decodeOp 0xDA#8)
  decide

theorem Length.callCA16 (addr : Word) : Length.Statement (.callCA16 addr) := by
  refine ⟨Nat.le_of_ble_eq_true rfl, Nat.le_of_ble_eq_true rfl, ?_⟩
  show 3 = 1 + moreBytes (decodeOp 0xDC#8)
  decide

theorem Length.sbcAD8 (n : Byte) : Length.Statement (.sbcAD8 n) := by
  refine ⟨Nat.le_of_ble_eq_true rfl, Nat.le_of_ble_eq_true rfl, ?_⟩
  show 2 = 1 + moreBytes (decodeOp 0xDE#8)
  decide

theorem Length.ldhMemA8A (n : Byte) : Length.Statement (.ldhMemA8A n) := by
  refine ⟨Nat.le_of_ble_eq_true rfl, Nat.le_of_ble_eq_true rfl, ?_⟩
  show 2 = 1 + moreBytes (decodeOp 0xE0#8)
  decide

theorem Length.andD8 (n : Byte) : Length.Statement (.andD8 n) := by
  refine ⟨Nat.le_of_ble_eq_true rfl, Nat.le_of_ble_eq_true rfl, ?_⟩
  show 2 = 1 + moreBytes (decodeOp 0xE6#8)
  decide

theorem Length.addSpE8 (e : Byte) : Length.Statement (.addSpE8 e) := by
  refine ⟨Nat.le_of_ble_eq_true rfl, Nat.le_of_ble_eq_true rfl, ?_⟩
  show 2 = 1 + moreBytes (decodeOp 0xE8#8)
  decide

theorem Length.ldMemA16A (addr : Word) : Length.Statement (.ldMemA16A addr) := by
  refine ⟨Nat.le_of_ble_eq_true rfl, Nat.le_of_ble_eq_true rfl, ?_⟩
  show 3 = 1 + moreBytes (decodeOp 0xEA#8)
  decide

theorem Length.xorD8 (n : Byte) : Length.Statement (.xorD8 n) := by
  refine ⟨Nat.le_of_ble_eq_true rfl, Nat.le_of_ble_eq_true rfl, ?_⟩
  show 2 = 1 + moreBytes (decodeOp 0xEE#8)
  decide

theorem Length.ldhAMemA8 (n : Byte) : Length.Statement (.ldhAMemA8 n) := by
  refine ⟨Nat.le_of_ble_eq_true rfl, Nat.le_of_ble_eq_true rfl, ?_⟩
  show 2 = 1 + moreBytes (decodeOp 0xF0#8)
  decide

theorem Length.orD8 (n : Byte) : Length.Statement (.orD8 n) := by
  refine ⟨Nat.le_of_ble_eq_true rfl, Nat.le_of_ble_eq_true rfl, ?_⟩
  show 2 = 1 + moreBytes (decodeOp 0xF6#8)
  decide

theorem Length.ldHlSpE8 (e : Byte) : Length.Statement (.ldHlSpE8 e) := by
  refine ⟨Nat.le_of_ble_eq_true rfl, Nat.le_of_ble_eq_true rfl, ?_⟩
  show 2 = 1 + moreBytes (decodeOp 0xF8#8)
  decide

theorem Length.ldAMemA16 (addr : Word) : Length.Statement (.ldAMemA16 addr) := by
  refine ⟨Nat.le_of_ble_eq_true rfl, Nat.le_of_ble_eq_true rfl, ?_⟩
  show 3 = 1 + moreBytes (decodeOp 0xFA#8)
  decide

theorem Length.cpD8 (n : Byte) : Length.Statement (.cpD8 n) := by
  refine ⟨Nat.le_of_ble_eq_true rfl, Nat.le_of_ble_eq_true rfl, ?_⟩
  show 2 = 1 + moreBytes (decodeOp 0xFE#8)
  decide

theorem Length.nop : Length.Statement .nop := ⟨by decide, by decide, rfl⟩

theorem Length.ldMemBcA : Length.Statement .ldMemBcA := ⟨by decide, by decide, rfl⟩

theorem Length.incBc : Length.Statement .incBc := ⟨by decide, by decide, rfl⟩

theorem Length.incB : Length.Statement .incB := ⟨by decide, by decide, rfl⟩

theorem Length.decB : Length.Statement .decB := ⟨by decide, by decide, rfl⟩

theorem Length.rlca : Length.Statement .rlca := ⟨by decide, by decide, rfl⟩

theorem Length.addHlBc : Length.Statement .addHlBc := ⟨by decide, by decide, rfl⟩

theorem Length.ldAMemBc : Length.Statement .ldAMemBc := ⟨by decide, by decide, rfl⟩

theorem Length.decBc : Length.Statement .decBc := ⟨by decide, by decide, rfl⟩

theorem Length.incC : Length.Statement .incC := ⟨by decide, by decide, rfl⟩

theorem Length.decC : Length.Statement .decC := ⟨by decide, by decide, rfl⟩

theorem Length.rrca : Length.Statement .rrca := ⟨by decide, by decide, rfl⟩

theorem Length.ldMemDeA : Length.Statement .ldMemDeA := ⟨by decide, by decide, rfl⟩

theorem Length.incDe : Length.Statement .incDe := ⟨by decide, by decide, rfl⟩

theorem Length.incD : Length.Statement .incD := ⟨by decide, by decide, rfl⟩

theorem Length.decD : Length.Statement .decD := ⟨by decide, by decide, rfl⟩

theorem Length.rla : Length.Statement .rla := ⟨by decide, by decide, rfl⟩

theorem Length.addHlDe : Length.Statement .addHlDe := ⟨by decide, by decide, rfl⟩

theorem Length.ldAMemDe : Length.Statement .ldAMemDe := ⟨by decide, by decide, rfl⟩

theorem Length.decDe : Length.Statement .decDe := ⟨by decide, by decide, rfl⟩

theorem Length.incE : Length.Statement .incE := ⟨by decide, by decide, rfl⟩

theorem Length.decE : Length.Statement .decE := ⟨by decide, by decide, rfl⟩

theorem Length.rra : Length.Statement .rra := ⟨by decide, by decide, rfl⟩

theorem Length.ldMemHlIncA : Length.Statement .ldMemHlIncA := ⟨by decide, by decide, rfl⟩

theorem Length.incHl : Length.Statement .incHl := ⟨by decide, by decide, rfl⟩

theorem Length.incH : Length.Statement .incH := ⟨by decide, by decide, rfl⟩

theorem Length.decH : Length.Statement .decH := ⟨by decide, by decide, rfl⟩

theorem Length.daa : Length.Statement .daa := ⟨by decide, by decide, rfl⟩

theorem Length.addHlHl : Length.Statement .addHlHl := ⟨by decide, by decide, rfl⟩

theorem Length.ldAMemHlInc : Length.Statement .ldAMemHlInc := ⟨by decide, by decide, rfl⟩

theorem Length.decHl : Length.Statement .decHl := ⟨by decide, by decide, rfl⟩

theorem Length.incL : Length.Statement .incL := ⟨by decide, by decide, rfl⟩

theorem Length.decL : Length.Statement .decL := ⟨by decide, by decide, rfl⟩

theorem Length.cpl : Length.Statement .cpl := ⟨by decide, by decide, rfl⟩

theorem Length.ldMemHlDecA : Length.Statement .ldMemHlDecA := ⟨by decide, by decide, rfl⟩

theorem Length.incSp : Length.Statement .incSp := ⟨by decide, by decide, rfl⟩

theorem Length.incMemHl : Length.Statement .incMemHl := ⟨by decide, by decide, rfl⟩

theorem Length.decMemHl : Length.Statement .decMemHl := ⟨by decide, by decide, rfl⟩

theorem Length.scf : Length.Statement .scf := ⟨by decide, by decide, rfl⟩

theorem Length.addHlSp : Length.Statement .addHlSp := ⟨by decide, by decide, rfl⟩

theorem Length.ldAMemHlDec : Length.Statement .ldAMemHlDec := ⟨by decide, by decide, rfl⟩

theorem Length.decSp : Length.Statement .decSp := ⟨by decide, by decide, rfl⟩

theorem Length.incA : Length.Statement .incA := ⟨by decide, by decide, rfl⟩

theorem Length.decA : Length.Statement .decA := ⟨by decide, by decide, rfl⟩

theorem Length.ccf : Length.Statement .ccf := ⟨by decide, by decide, rfl⟩

theorem Length.ldBB : Length.Statement .ldBB := ⟨by decide, by decide, rfl⟩

theorem Length.ldBC : Length.Statement .ldBC := ⟨by decide, by decide, rfl⟩

theorem Length.ldBD : Length.Statement .ldBD := ⟨by decide, by decide, rfl⟩

theorem Length.ldBE : Length.Statement .ldBE := ⟨by decide, by decide, rfl⟩

theorem Length.ldBH : Length.Statement .ldBH := ⟨by decide, by decide, rfl⟩

theorem Length.ldBL : Length.Statement .ldBL := ⟨by decide, by decide, rfl⟩

theorem Length.ldBMemHl : Length.Statement .ldBMemHl := ⟨by decide, by decide, rfl⟩

theorem Length.ldBA : Length.Statement .ldBA := ⟨by decide, by decide, rfl⟩

theorem Length.ldCB : Length.Statement .ldCB := ⟨by decide, by decide, rfl⟩

theorem Length.ldCC : Length.Statement .ldCC := ⟨by decide, by decide, rfl⟩

theorem Length.ldCD : Length.Statement .ldCD := ⟨by decide, by decide, rfl⟩

theorem Length.ldCE : Length.Statement .ldCE := ⟨by decide, by decide, rfl⟩

theorem Length.ldCH : Length.Statement .ldCH := ⟨by decide, by decide, rfl⟩

theorem Length.ldCL : Length.Statement .ldCL := ⟨by decide, by decide, rfl⟩

theorem Length.ldCMemHl : Length.Statement .ldCMemHl := ⟨by decide, by decide, rfl⟩

theorem Length.ldCA : Length.Statement .ldCA := ⟨by decide, by decide, rfl⟩

theorem Length.ldDB : Length.Statement .ldDB := ⟨by decide, by decide, rfl⟩

theorem Length.ldDC : Length.Statement .ldDC := ⟨by decide, by decide, rfl⟩

theorem Length.ldDD : Length.Statement .ldDD := ⟨by decide, by decide, rfl⟩

theorem Length.ldDE : Length.Statement .ldDE := ⟨by decide, by decide, rfl⟩

theorem Length.ldDH : Length.Statement .ldDH := ⟨by decide, by decide, rfl⟩

theorem Length.ldDL : Length.Statement .ldDL := ⟨by decide, by decide, rfl⟩

theorem Length.ldDMemHl : Length.Statement .ldDMemHl := ⟨by decide, by decide, rfl⟩

theorem Length.ldDA : Length.Statement .ldDA := ⟨by decide, by decide, rfl⟩

theorem Length.ldEB : Length.Statement .ldEB := ⟨by decide, by decide, rfl⟩

theorem Length.ldEC : Length.Statement .ldEC := ⟨by decide, by decide, rfl⟩

theorem Length.ldED : Length.Statement .ldED := ⟨by decide, by decide, rfl⟩

theorem Length.ldEE : Length.Statement .ldEE := ⟨by decide, by decide, rfl⟩

theorem Length.ldEH : Length.Statement .ldEH := ⟨by decide, by decide, rfl⟩

theorem Length.ldEL : Length.Statement .ldEL := ⟨by decide, by decide, rfl⟩

theorem Length.ldEMemHl : Length.Statement .ldEMemHl := ⟨by decide, by decide, rfl⟩

theorem Length.ldEA : Length.Statement .ldEA := ⟨by decide, by decide, rfl⟩

theorem Length.ldHB : Length.Statement .ldHB := ⟨by decide, by decide, rfl⟩

theorem Length.ldHC : Length.Statement .ldHC := ⟨by decide, by decide, rfl⟩

theorem Length.ldHD : Length.Statement .ldHD := ⟨by decide, by decide, rfl⟩

theorem Length.ldHE : Length.Statement .ldHE := ⟨by decide, by decide, rfl⟩

theorem Length.ldHH : Length.Statement .ldHH := ⟨by decide, by decide, rfl⟩

theorem Length.ldHL : Length.Statement .ldHL := ⟨by decide, by decide, rfl⟩

theorem Length.ldHMemHl : Length.Statement .ldHMemHl := ⟨by decide, by decide, rfl⟩

theorem Length.ldHA : Length.Statement .ldHA := ⟨by decide, by decide, rfl⟩

theorem Length.ldLB : Length.Statement .ldLB := ⟨by decide, by decide, rfl⟩

theorem Length.ldLC : Length.Statement .ldLC := ⟨by decide, by decide, rfl⟩

theorem Length.ldLD : Length.Statement .ldLD := ⟨by decide, by decide, rfl⟩

theorem Length.ldLE : Length.Statement .ldLE := ⟨by decide, by decide, rfl⟩

theorem Length.ldLH : Length.Statement .ldLH := ⟨by decide, by decide, rfl⟩

theorem Length.ldLL : Length.Statement .ldLL := ⟨by decide, by decide, rfl⟩

theorem Length.ldLMemHl : Length.Statement .ldLMemHl := ⟨by decide, by decide, rfl⟩

theorem Length.ldLA : Length.Statement .ldLA := ⟨by decide, by decide, rfl⟩

theorem Length.ldMemHlB : Length.Statement .ldMemHlB := ⟨by decide, by decide, rfl⟩

theorem Length.ldMemHlC : Length.Statement .ldMemHlC := ⟨by decide, by decide, rfl⟩

theorem Length.ldMemHlD : Length.Statement .ldMemHlD := ⟨by decide, by decide, rfl⟩

theorem Length.ldMemHlE : Length.Statement .ldMemHlE := ⟨by decide, by decide, rfl⟩

theorem Length.ldMemHlH : Length.Statement .ldMemHlH := ⟨by decide, by decide, rfl⟩

theorem Length.ldMemHlL : Length.Statement .ldMemHlL := ⟨by decide, by decide, rfl⟩

theorem Length.halt : Length.Statement .halt := ⟨by decide, by decide, rfl⟩

theorem Length.ldMemHlA : Length.Statement .ldMemHlA := ⟨by decide, by decide, rfl⟩

theorem Length.ldAB : Length.Statement .ldAB := ⟨by decide, by decide, rfl⟩

theorem Length.ldAC : Length.Statement .ldAC := ⟨by decide, by decide, rfl⟩

theorem Length.ldAD : Length.Statement .ldAD := ⟨by decide, by decide, rfl⟩

theorem Length.ldAE : Length.Statement .ldAE := ⟨by decide, by decide, rfl⟩

theorem Length.ldAH : Length.Statement .ldAH := ⟨by decide, by decide, rfl⟩

theorem Length.ldAL : Length.Statement .ldAL := ⟨by decide, by decide, rfl⟩

theorem Length.ldAMemHl : Length.Statement .ldAMemHl := ⟨by decide, by decide, rfl⟩

theorem Length.ldAA : Length.Statement .ldAA := ⟨by decide, by decide, rfl⟩

theorem Length.addAB : Length.Statement .addAB := ⟨by decide, by decide, rfl⟩

theorem Length.addAC : Length.Statement .addAC := ⟨by decide, by decide, rfl⟩

theorem Length.addAD : Length.Statement .addAD := ⟨by decide, by decide, rfl⟩

theorem Length.addAE : Length.Statement .addAE := ⟨by decide, by decide, rfl⟩

theorem Length.addAH : Length.Statement .addAH := ⟨by decide, by decide, rfl⟩

theorem Length.addAL : Length.Statement .addAL := ⟨by decide, by decide, rfl⟩

theorem Length.addAMemHl : Length.Statement .addAMemHl := ⟨by decide, by decide, rfl⟩

theorem Length.addAA : Length.Statement .addAA := ⟨by decide, by decide, rfl⟩

theorem Length.adcAB : Length.Statement .adcAB := ⟨by decide, by decide, rfl⟩

theorem Length.adcAC : Length.Statement .adcAC := ⟨by decide, by decide, rfl⟩

theorem Length.adcAD : Length.Statement .adcAD := ⟨by decide, by decide, rfl⟩

theorem Length.adcAE : Length.Statement .adcAE := ⟨by decide, by decide, rfl⟩

theorem Length.adcAH : Length.Statement .adcAH := ⟨by decide, by decide, rfl⟩

theorem Length.adcAL : Length.Statement .adcAL := ⟨by decide, by decide, rfl⟩

theorem Length.adcAMemHl : Length.Statement .adcAMemHl := ⟨by decide, by decide, rfl⟩

theorem Length.adcAA : Length.Statement .adcAA := ⟨by decide, by decide, rfl⟩

theorem Length.subB : Length.Statement .subB := ⟨by decide, by decide, rfl⟩

theorem Length.subC : Length.Statement .subC := ⟨by decide, by decide, rfl⟩

theorem Length.subD : Length.Statement .subD := ⟨by decide, by decide, rfl⟩

theorem Length.subE : Length.Statement .subE := ⟨by decide, by decide, rfl⟩

theorem Length.subH : Length.Statement .subH := ⟨by decide, by decide, rfl⟩

theorem Length.subL : Length.Statement .subL := ⟨by decide, by decide, rfl⟩

theorem Length.subMemHl : Length.Statement .subMemHl := ⟨by decide, by decide, rfl⟩

theorem Length.subA : Length.Statement .subA := ⟨by decide, by decide, rfl⟩

theorem Length.sbcAB : Length.Statement .sbcAB := ⟨by decide, by decide, rfl⟩

theorem Length.sbcAC : Length.Statement .sbcAC := ⟨by decide, by decide, rfl⟩

theorem Length.sbcAD : Length.Statement .sbcAD := ⟨by decide, by decide, rfl⟩

theorem Length.sbcAE : Length.Statement .sbcAE := ⟨by decide, by decide, rfl⟩

theorem Length.sbcAH : Length.Statement .sbcAH := ⟨by decide, by decide, rfl⟩

theorem Length.sbcAL : Length.Statement .sbcAL := ⟨by decide, by decide, rfl⟩

theorem Length.sbcAMemHl : Length.Statement .sbcAMemHl := ⟨by decide, by decide, rfl⟩

theorem Length.sbcAA : Length.Statement .sbcAA := ⟨by decide, by decide, rfl⟩

theorem Length.andB : Length.Statement .andB := ⟨by decide, by decide, rfl⟩

theorem Length.andC : Length.Statement .andC := ⟨by decide, by decide, rfl⟩

theorem Length.andD : Length.Statement .andD := ⟨by decide, by decide, rfl⟩

theorem Length.andE : Length.Statement .andE := ⟨by decide, by decide, rfl⟩

theorem Length.andH : Length.Statement .andH := ⟨by decide, by decide, rfl⟩

theorem Length.andL : Length.Statement .andL := ⟨by decide, by decide, rfl⟩

theorem Length.andMemHl : Length.Statement .andMemHl := ⟨by decide, by decide, rfl⟩

theorem Length.andA : Length.Statement .andA := ⟨by decide, by decide, rfl⟩

theorem Length.xorB : Length.Statement .xorB := ⟨by decide, by decide, rfl⟩

theorem Length.xorC : Length.Statement .xorC := ⟨by decide, by decide, rfl⟩

theorem Length.xorD : Length.Statement .xorD := ⟨by decide, by decide, rfl⟩

theorem Length.xorE : Length.Statement .xorE := ⟨by decide, by decide, rfl⟩

theorem Length.xorH : Length.Statement .xorH := ⟨by decide, by decide, rfl⟩

theorem Length.xorL : Length.Statement .xorL := ⟨by decide, by decide, rfl⟩

theorem Length.xorMemHl : Length.Statement .xorMemHl := ⟨by decide, by decide, rfl⟩

theorem Length.xorA : Length.Statement .xorA := ⟨by decide, by decide, rfl⟩

theorem Length.orB : Length.Statement .orB := ⟨by decide, by decide, rfl⟩

theorem Length.orC : Length.Statement .orC := ⟨by decide, by decide, rfl⟩

theorem Length.orD : Length.Statement .orD := ⟨by decide, by decide, rfl⟩

theorem Length.orE : Length.Statement .orE := ⟨by decide, by decide, rfl⟩

theorem Length.orH : Length.Statement .orH := ⟨by decide, by decide, rfl⟩

theorem Length.orL : Length.Statement .orL := ⟨by decide, by decide, rfl⟩

theorem Length.orMemHl : Length.Statement .orMemHl := ⟨by decide, by decide, rfl⟩

theorem Length.orA : Length.Statement .orA := ⟨by decide, by decide, rfl⟩

theorem Length.cpB : Length.Statement .cpB := ⟨by decide, by decide, rfl⟩

theorem Length.cpC : Length.Statement .cpC := ⟨by decide, by decide, rfl⟩

theorem Length.cpD : Length.Statement .cpD := ⟨by decide, by decide, rfl⟩

theorem Length.cpE : Length.Statement .cpE := ⟨by decide, by decide, rfl⟩

theorem Length.cpH : Length.Statement .cpH := ⟨by decide, by decide, rfl⟩

theorem Length.cpL : Length.Statement .cpL := ⟨by decide, by decide, rfl⟩

theorem Length.cpMemHl : Length.Statement .cpMemHl := ⟨by decide, by decide, rfl⟩

theorem Length.cpA : Length.Statement .cpA := ⟨by decide, by decide, rfl⟩

theorem Length.retNz : Length.Statement .retNz := ⟨by decide, by decide, rfl⟩

theorem Length.popBc : Length.Statement .popBc := ⟨by decide, by decide, rfl⟩

theorem Length.pushBc : Length.Statement .pushBc := ⟨by decide, by decide, rfl⟩

theorem Length.rst00 : Length.Statement .rst00 := ⟨by decide, by decide, rfl⟩

theorem Length.retZ : Length.Statement .retZ := ⟨by decide, by decide, rfl⟩

theorem Length.ret : Length.Statement .ret := ⟨by decide, by decide, rfl⟩

theorem Length.rst08 : Length.Statement .rst08 := ⟨by decide, by decide, rfl⟩

theorem Length.retNc : Length.Statement .retNc := ⟨by decide, by decide, rfl⟩

theorem Length.popDe : Length.Statement .popDe := ⟨by decide, by decide, rfl⟩

theorem Length.illegalD3 : Length.Statement .illegalD3 := ⟨by decide, by decide, rfl⟩

theorem Length.pushDe : Length.Statement .pushDe := ⟨by decide, by decide, rfl⟩

theorem Length.rst10 : Length.Statement .rst10 := ⟨by decide, by decide, rfl⟩

theorem Length.retC : Length.Statement .retC := ⟨by decide, by decide, rfl⟩

theorem Length.reti : Length.Statement .reti := ⟨by decide, by decide, rfl⟩

theorem Length.illegalDB : Length.Statement .illegalDB := ⟨by decide, by decide, rfl⟩

theorem Length.illegalDD : Length.Statement .illegalDD := ⟨by decide, by decide, rfl⟩

theorem Length.rst18 : Length.Statement .rst18 := ⟨by decide, by decide, rfl⟩

theorem Length.popHl : Length.Statement .popHl := ⟨by decide, by decide, rfl⟩

theorem Length.ldMemCA : Length.Statement .ldMemCA := ⟨by decide, by decide, rfl⟩

theorem Length.illegalE3 : Length.Statement .illegalE3 := ⟨by decide, by decide, rfl⟩

theorem Length.illegalE4 : Length.Statement .illegalE4 := ⟨by decide, by decide, rfl⟩

theorem Length.pushHl : Length.Statement .pushHl := ⟨by decide, by decide, rfl⟩

theorem Length.rst20 : Length.Statement .rst20 := ⟨by decide, by decide, rfl⟩

theorem Length.jpHl : Length.Statement .jpHl := ⟨by decide, by decide, rfl⟩

theorem Length.illegalEB : Length.Statement .illegalEB := ⟨by decide, by decide, rfl⟩

theorem Length.illegalEC : Length.Statement .illegalEC := ⟨by decide, by decide, rfl⟩

theorem Length.illegalED : Length.Statement .illegalED := ⟨by decide, by decide, rfl⟩

theorem Length.rst28 : Length.Statement .rst28 := ⟨by decide, by decide, rfl⟩

theorem Length.popAf : Length.Statement .popAf := ⟨by decide, by decide, rfl⟩

theorem Length.ldAMemC : Length.Statement .ldAMemC := ⟨by decide, by decide, rfl⟩

theorem Length.di : Length.Statement .di := ⟨by decide, by decide, rfl⟩

theorem Length.illegalF4 : Length.Statement .illegalF4 := ⟨by decide, by decide, rfl⟩

theorem Length.pushAf : Length.Statement .pushAf := ⟨by decide, by decide, rfl⟩

theorem Length.rst30 : Length.Statement .rst30 := ⟨by decide, by decide, rfl⟩

theorem Length.ldSpHl : Length.Statement .ldSpHl := ⟨by decide, by decide, rfl⟩

theorem Length.ei : Length.Statement .ei := ⟨by decide, by decide, rfl⟩

theorem Length.illegalFC : Length.Statement .illegalFC := ⟨by decide, by decide, rfl⟩

theorem Length.illegalFD : Length.Statement .illegalFD := ⟨by decide, by decide, rfl⟩

theorem Length.rst38 : Length.Statement .rst38 := ⟨by decide, by decide, rfl⟩

theorem Length.rlcB : Length.Statement .rlcB := ⟨by decide, by decide, rfl⟩

theorem Length.rlcC : Length.Statement .rlcC := ⟨by decide, by decide, rfl⟩

theorem Length.rlcD : Length.Statement .rlcD := ⟨by decide, by decide, rfl⟩

theorem Length.rlcE : Length.Statement .rlcE := ⟨by decide, by decide, rfl⟩

theorem Length.rlcH : Length.Statement .rlcH := ⟨by decide, by decide, rfl⟩

theorem Length.rlcL : Length.Statement .rlcL := ⟨by decide, by decide, rfl⟩

theorem Length.rlcMemHl : Length.Statement .rlcMemHl := ⟨by decide, by decide, rfl⟩

theorem Length.rlcA : Length.Statement .rlcA := ⟨by decide, by decide, rfl⟩

theorem Length.rrcB : Length.Statement .rrcB := ⟨by decide, by decide, rfl⟩

theorem Length.rrcC : Length.Statement .rrcC := ⟨by decide, by decide, rfl⟩

theorem Length.rrcD : Length.Statement .rrcD := ⟨by decide, by decide, rfl⟩

theorem Length.rrcE : Length.Statement .rrcE := ⟨by decide, by decide, rfl⟩

theorem Length.rrcH : Length.Statement .rrcH := ⟨by decide, by decide, rfl⟩

theorem Length.rrcL : Length.Statement .rrcL := ⟨by decide, by decide, rfl⟩

theorem Length.rrcMemHl : Length.Statement .rrcMemHl := ⟨by decide, by decide, rfl⟩

theorem Length.rrcA : Length.Statement .rrcA := ⟨by decide, by decide, rfl⟩

theorem Length.rlB : Length.Statement .rlB := ⟨by decide, by decide, rfl⟩

theorem Length.rlC : Length.Statement .rlC := ⟨by decide, by decide, rfl⟩

theorem Length.rlD : Length.Statement .rlD := ⟨by decide, by decide, rfl⟩

theorem Length.rlE : Length.Statement .rlE := ⟨by decide, by decide, rfl⟩

theorem Length.rlH : Length.Statement .rlH := ⟨by decide, by decide, rfl⟩

theorem Length.rlL : Length.Statement .rlL := ⟨by decide, by decide, rfl⟩

theorem Length.rlMemHl : Length.Statement .rlMemHl := ⟨by decide, by decide, rfl⟩

theorem Length.rlA : Length.Statement .rlA := ⟨by decide, by decide, rfl⟩

theorem Length.rrB : Length.Statement .rrB := ⟨by decide, by decide, rfl⟩

theorem Length.rrC : Length.Statement .rrC := ⟨by decide, by decide, rfl⟩

theorem Length.rrD : Length.Statement .rrD := ⟨by decide, by decide, rfl⟩

theorem Length.rrE : Length.Statement .rrE := ⟨by decide, by decide, rfl⟩

theorem Length.rrH : Length.Statement .rrH := ⟨by decide, by decide, rfl⟩

theorem Length.rrL : Length.Statement .rrL := ⟨by decide, by decide, rfl⟩

theorem Length.rrMemHl : Length.Statement .rrMemHl := ⟨by decide, by decide, rfl⟩

theorem Length.rrA : Length.Statement .rrA := ⟨by decide, by decide, rfl⟩

theorem Length.slaB : Length.Statement .slaB := ⟨by decide, by decide, rfl⟩

theorem Length.slaC : Length.Statement .slaC := ⟨by decide, by decide, rfl⟩

theorem Length.slaD : Length.Statement .slaD := ⟨by decide, by decide, rfl⟩

theorem Length.slaE : Length.Statement .slaE := ⟨by decide, by decide, rfl⟩

theorem Length.slaH : Length.Statement .slaH := ⟨by decide, by decide, rfl⟩

theorem Length.slaL : Length.Statement .slaL := ⟨by decide, by decide, rfl⟩

theorem Length.slaMemHl : Length.Statement .slaMemHl := ⟨by decide, by decide, rfl⟩

theorem Length.slaA : Length.Statement .slaA := ⟨by decide, by decide, rfl⟩

theorem Length.sraB : Length.Statement .sraB := ⟨by decide, by decide, rfl⟩

theorem Length.sraC : Length.Statement .sraC := ⟨by decide, by decide, rfl⟩

theorem Length.sraD : Length.Statement .sraD := ⟨by decide, by decide, rfl⟩

theorem Length.sraE : Length.Statement .sraE := ⟨by decide, by decide, rfl⟩

theorem Length.sraH : Length.Statement .sraH := ⟨by decide, by decide, rfl⟩

theorem Length.sraL : Length.Statement .sraL := ⟨by decide, by decide, rfl⟩

theorem Length.sraMemHl : Length.Statement .sraMemHl := ⟨by decide, by decide, rfl⟩

theorem Length.sraA : Length.Statement .sraA := ⟨by decide, by decide, rfl⟩

theorem Length.swapB : Length.Statement .swapB := ⟨by decide, by decide, rfl⟩

theorem Length.swapC : Length.Statement .swapC := ⟨by decide, by decide, rfl⟩

theorem Length.swapD : Length.Statement .swapD := ⟨by decide, by decide, rfl⟩

theorem Length.swapE : Length.Statement .swapE := ⟨by decide, by decide, rfl⟩

theorem Length.swapH : Length.Statement .swapH := ⟨by decide, by decide, rfl⟩

theorem Length.swapL : Length.Statement .swapL := ⟨by decide, by decide, rfl⟩

theorem Length.swapMemHl : Length.Statement .swapMemHl := ⟨by decide, by decide, rfl⟩

theorem Length.swapA : Length.Statement .swapA := ⟨by decide, by decide, rfl⟩

theorem Length.srlB : Length.Statement .srlB := ⟨by decide, by decide, rfl⟩

theorem Length.srlC : Length.Statement .srlC := ⟨by decide, by decide, rfl⟩

theorem Length.srlD : Length.Statement .srlD := ⟨by decide, by decide, rfl⟩

theorem Length.srlE : Length.Statement .srlE := ⟨by decide, by decide, rfl⟩

theorem Length.srlH : Length.Statement .srlH := ⟨by decide, by decide, rfl⟩

theorem Length.srlL : Length.Statement .srlL := ⟨by decide, by decide, rfl⟩

theorem Length.srlMemHl : Length.Statement .srlMemHl := ⟨by decide, by decide, rfl⟩

theorem Length.srlA : Length.Statement .srlA := ⟨by decide, by decide, rfl⟩

theorem Length.bit0B : Length.Statement .bit0B := ⟨by decide, by decide, rfl⟩

theorem Length.bit0C : Length.Statement .bit0C := ⟨by decide, by decide, rfl⟩

theorem Length.bit0D : Length.Statement .bit0D := ⟨by decide, by decide, rfl⟩

theorem Length.bit0E : Length.Statement .bit0E := ⟨by decide, by decide, rfl⟩

theorem Length.bit0H : Length.Statement .bit0H := ⟨by decide, by decide, rfl⟩

theorem Length.bit0L : Length.Statement .bit0L := ⟨by decide, by decide, rfl⟩

theorem Length.bit0MemHl : Length.Statement .bit0MemHl := ⟨by decide, by decide, rfl⟩

theorem Length.bit0A : Length.Statement .bit0A := ⟨by decide, by decide, rfl⟩

theorem Length.bit1B : Length.Statement .bit1B := ⟨by decide, by decide, rfl⟩

theorem Length.bit1C : Length.Statement .bit1C := ⟨by decide, by decide, rfl⟩

theorem Length.bit1D : Length.Statement .bit1D := ⟨by decide, by decide, rfl⟩

theorem Length.bit1E : Length.Statement .bit1E := ⟨by decide, by decide, rfl⟩

theorem Length.bit1H : Length.Statement .bit1H := ⟨by decide, by decide, rfl⟩

theorem Length.bit1L : Length.Statement .bit1L := ⟨by decide, by decide, rfl⟩

theorem Length.bit1MemHl : Length.Statement .bit1MemHl := ⟨by decide, by decide, rfl⟩

theorem Length.bit1A : Length.Statement .bit1A := ⟨by decide, by decide, rfl⟩

theorem Length.bit2B : Length.Statement .bit2B := ⟨by decide, by decide, rfl⟩

theorem Length.bit2C : Length.Statement .bit2C := ⟨by decide, by decide, rfl⟩

theorem Length.bit2D : Length.Statement .bit2D := ⟨by decide, by decide, rfl⟩

theorem Length.bit2E : Length.Statement .bit2E := ⟨by decide, by decide, rfl⟩

theorem Length.bit2H : Length.Statement .bit2H := ⟨by decide, by decide, rfl⟩

theorem Length.bit2L : Length.Statement .bit2L := ⟨by decide, by decide, rfl⟩

theorem Length.bit2MemHl : Length.Statement .bit2MemHl := ⟨by decide, by decide, rfl⟩

theorem Length.bit2A : Length.Statement .bit2A := ⟨by decide, by decide, rfl⟩

theorem Length.bit3B : Length.Statement .bit3B := ⟨by decide, by decide, rfl⟩

theorem Length.bit3C : Length.Statement .bit3C := ⟨by decide, by decide, rfl⟩

theorem Length.bit3D : Length.Statement .bit3D := ⟨by decide, by decide, rfl⟩

theorem Length.bit3E : Length.Statement .bit3E := ⟨by decide, by decide, rfl⟩

theorem Length.bit3H : Length.Statement .bit3H := ⟨by decide, by decide, rfl⟩

theorem Length.bit3L : Length.Statement .bit3L := ⟨by decide, by decide, rfl⟩

theorem Length.bit3MemHl : Length.Statement .bit3MemHl := ⟨by decide, by decide, rfl⟩

theorem Length.bit3A : Length.Statement .bit3A := ⟨by decide, by decide, rfl⟩

theorem Length.bit4B : Length.Statement .bit4B := ⟨by decide, by decide, rfl⟩

theorem Length.bit4C : Length.Statement .bit4C := ⟨by decide, by decide, rfl⟩

theorem Length.bit4D : Length.Statement .bit4D := ⟨by decide, by decide, rfl⟩

theorem Length.bit4E : Length.Statement .bit4E := ⟨by decide, by decide, rfl⟩

theorem Length.bit4H : Length.Statement .bit4H := ⟨by decide, by decide, rfl⟩

theorem Length.bit4L : Length.Statement .bit4L := ⟨by decide, by decide, rfl⟩

theorem Length.bit4MemHl : Length.Statement .bit4MemHl := ⟨by decide, by decide, rfl⟩

theorem Length.bit4A : Length.Statement .bit4A := ⟨by decide, by decide, rfl⟩

theorem Length.bit5B : Length.Statement .bit5B := ⟨by decide, by decide, rfl⟩

theorem Length.bit5C : Length.Statement .bit5C := ⟨by decide, by decide, rfl⟩

theorem Length.bit5D : Length.Statement .bit5D := ⟨by decide, by decide, rfl⟩

theorem Length.bit5E : Length.Statement .bit5E := ⟨by decide, by decide, rfl⟩

theorem Length.bit5H : Length.Statement .bit5H := ⟨by decide, by decide, rfl⟩

theorem Length.bit5L : Length.Statement .bit5L := ⟨by decide, by decide, rfl⟩

theorem Length.bit5MemHl : Length.Statement .bit5MemHl := ⟨by decide, by decide, rfl⟩

theorem Length.bit5A : Length.Statement .bit5A := ⟨by decide, by decide, rfl⟩

theorem Length.bit6B : Length.Statement .bit6B := ⟨by decide, by decide, rfl⟩

theorem Length.bit6C : Length.Statement .bit6C := ⟨by decide, by decide, rfl⟩

theorem Length.bit6D : Length.Statement .bit6D := ⟨by decide, by decide, rfl⟩

theorem Length.bit6E : Length.Statement .bit6E := ⟨by decide, by decide, rfl⟩

theorem Length.bit6H : Length.Statement .bit6H := ⟨by decide, by decide, rfl⟩

theorem Length.bit6L : Length.Statement .bit6L := ⟨by decide, by decide, rfl⟩

theorem Length.bit6MemHl : Length.Statement .bit6MemHl := ⟨by decide, by decide, rfl⟩

theorem Length.bit6A : Length.Statement .bit6A := ⟨by decide, by decide, rfl⟩

theorem Length.bit7B : Length.Statement .bit7B := ⟨by decide, by decide, rfl⟩

theorem Length.bit7C : Length.Statement .bit7C := ⟨by decide, by decide, rfl⟩

theorem Length.bit7D : Length.Statement .bit7D := ⟨by decide, by decide, rfl⟩

theorem Length.bit7E : Length.Statement .bit7E := ⟨by decide, by decide, rfl⟩

theorem Length.bit7H : Length.Statement .bit7H := ⟨by decide, by decide, rfl⟩

theorem Length.bit7L : Length.Statement .bit7L := ⟨by decide, by decide, rfl⟩

theorem Length.bit7MemHl : Length.Statement .bit7MemHl := ⟨by decide, by decide, rfl⟩

theorem Length.bit7A : Length.Statement .bit7A := ⟨by decide, by decide, rfl⟩

theorem Length.res0B : Length.Statement .res0B := ⟨by decide, by decide, rfl⟩

theorem Length.res0C : Length.Statement .res0C := ⟨by decide, by decide, rfl⟩

theorem Length.res0D : Length.Statement .res0D := ⟨by decide, by decide, rfl⟩

theorem Length.res0E : Length.Statement .res0E := ⟨by decide, by decide, rfl⟩

theorem Length.res0H : Length.Statement .res0H := ⟨by decide, by decide, rfl⟩

theorem Length.res0L : Length.Statement .res0L := ⟨by decide, by decide, rfl⟩

theorem Length.res0MemHl : Length.Statement .res0MemHl := ⟨by decide, by decide, rfl⟩

theorem Length.res0A : Length.Statement .res0A := ⟨by decide, by decide, rfl⟩

theorem Length.res1B : Length.Statement .res1B := ⟨by decide, by decide, rfl⟩

theorem Length.res1C : Length.Statement .res1C := ⟨by decide, by decide, rfl⟩

theorem Length.res1D : Length.Statement .res1D := ⟨by decide, by decide, rfl⟩

theorem Length.res1E : Length.Statement .res1E := ⟨by decide, by decide, rfl⟩

theorem Length.res1H : Length.Statement .res1H := ⟨by decide, by decide, rfl⟩

theorem Length.res1L : Length.Statement .res1L := ⟨by decide, by decide, rfl⟩

theorem Length.res1MemHl : Length.Statement .res1MemHl := ⟨by decide, by decide, rfl⟩

theorem Length.res1A : Length.Statement .res1A := ⟨by decide, by decide, rfl⟩

theorem Length.res2B : Length.Statement .res2B := ⟨by decide, by decide, rfl⟩

theorem Length.res2C : Length.Statement .res2C := ⟨by decide, by decide, rfl⟩

theorem Length.res2D : Length.Statement .res2D := ⟨by decide, by decide, rfl⟩

theorem Length.res2E : Length.Statement .res2E := ⟨by decide, by decide, rfl⟩

theorem Length.res2H : Length.Statement .res2H := ⟨by decide, by decide, rfl⟩

theorem Length.res2L : Length.Statement .res2L := ⟨by decide, by decide, rfl⟩

theorem Length.res2MemHl : Length.Statement .res2MemHl := ⟨by decide, by decide, rfl⟩

theorem Length.res2A : Length.Statement .res2A := ⟨by decide, by decide, rfl⟩

theorem Length.res3B : Length.Statement .res3B := ⟨by decide, by decide, rfl⟩

theorem Length.res3C : Length.Statement .res3C := ⟨by decide, by decide, rfl⟩

theorem Length.res3D : Length.Statement .res3D := ⟨by decide, by decide, rfl⟩

theorem Length.res3E : Length.Statement .res3E := ⟨by decide, by decide, rfl⟩

theorem Length.res3H : Length.Statement .res3H := ⟨by decide, by decide, rfl⟩

theorem Length.res3L : Length.Statement .res3L := ⟨by decide, by decide, rfl⟩

theorem Length.res3MemHl : Length.Statement .res3MemHl := ⟨by decide, by decide, rfl⟩

theorem Length.res3A : Length.Statement .res3A := ⟨by decide, by decide, rfl⟩

theorem Length.res4B : Length.Statement .res4B := ⟨by decide, by decide, rfl⟩

theorem Length.res4C : Length.Statement .res4C := ⟨by decide, by decide, rfl⟩

theorem Length.res4D : Length.Statement .res4D := ⟨by decide, by decide, rfl⟩

theorem Length.res4E : Length.Statement .res4E := ⟨by decide, by decide, rfl⟩

theorem Length.res4H : Length.Statement .res4H := ⟨by decide, by decide, rfl⟩

theorem Length.res4L : Length.Statement .res4L := ⟨by decide, by decide, rfl⟩

theorem Length.res4MemHl : Length.Statement .res4MemHl := ⟨by decide, by decide, rfl⟩

theorem Length.res4A : Length.Statement .res4A := ⟨by decide, by decide, rfl⟩

theorem Length.res5B : Length.Statement .res5B := ⟨by decide, by decide, rfl⟩

theorem Length.res5C : Length.Statement .res5C := ⟨by decide, by decide, rfl⟩

theorem Length.res5D : Length.Statement .res5D := ⟨by decide, by decide, rfl⟩

theorem Length.res5E : Length.Statement .res5E := ⟨by decide, by decide, rfl⟩

theorem Length.res5H : Length.Statement .res5H := ⟨by decide, by decide, rfl⟩

theorem Length.res5L : Length.Statement .res5L := ⟨by decide, by decide, rfl⟩

theorem Length.res5MemHl : Length.Statement .res5MemHl := ⟨by decide, by decide, rfl⟩

theorem Length.res5A : Length.Statement .res5A := ⟨by decide, by decide, rfl⟩

theorem Length.res6B : Length.Statement .res6B := ⟨by decide, by decide, rfl⟩

theorem Length.res6C : Length.Statement .res6C := ⟨by decide, by decide, rfl⟩

theorem Length.res6D : Length.Statement .res6D := ⟨by decide, by decide, rfl⟩

theorem Length.res6E : Length.Statement .res6E := ⟨by decide, by decide, rfl⟩

theorem Length.res6H : Length.Statement .res6H := ⟨by decide, by decide, rfl⟩

theorem Length.res6L : Length.Statement .res6L := ⟨by decide, by decide, rfl⟩

theorem Length.res6MemHl : Length.Statement .res6MemHl := ⟨by decide, by decide, rfl⟩

theorem Length.res6A : Length.Statement .res6A := ⟨by decide, by decide, rfl⟩

theorem Length.res7B : Length.Statement .res7B := ⟨by decide, by decide, rfl⟩

theorem Length.res7C : Length.Statement .res7C := ⟨by decide, by decide, rfl⟩

theorem Length.res7D : Length.Statement .res7D := ⟨by decide, by decide, rfl⟩

theorem Length.res7E : Length.Statement .res7E := ⟨by decide, by decide, rfl⟩

theorem Length.res7H : Length.Statement .res7H := ⟨by decide, by decide, rfl⟩

theorem Length.res7L : Length.Statement .res7L := ⟨by decide, by decide, rfl⟩

theorem Length.res7MemHl : Length.Statement .res7MemHl := ⟨by decide, by decide, rfl⟩

theorem Length.res7A : Length.Statement .res7A := ⟨by decide, by decide, rfl⟩

theorem Length.set0B : Length.Statement .set0B := ⟨by decide, by decide, rfl⟩

theorem Length.set0C : Length.Statement .set0C := ⟨by decide, by decide, rfl⟩

theorem Length.set0D : Length.Statement .set0D := ⟨by decide, by decide, rfl⟩

theorem Length.set0E : Length.Statement .set0E := ⟨by decide, by decide, rfl⟩

theorem Length.set0H : Length.Statement .set0H := ⟨by decide, by decide, rfl⟩

theorem Length.set0L : Length.Statement .set0L := ⟨by decide, by decide, rfl⟩

theorem Length.set0MemHl : Length.Statement .set0MemHl := ⟨by decide, by decide, rfl⟩

theorem Length.set0A : Length.Statement .set0A := ⟨by decide, by decide, rfl⟩

theorem Length.set1B : Length.Statement .set1B := ⟨by decide, by decide, rfl⟩

theorem Length.set1C : Length.Statement .set1C := ⟨by decide, by decide, rfl⟩

theorem Length.set1D : Length.Statement .set1D := ⟨by decide, by decide, rfl⟩

theorem Length.set1E : Length.Statement .set1E := ⟨by decide, by decide, rfl⟩

theorem Length.set1H : Length.Statement .set1H := ⟨by decide, by decide, rfl⟩

theorem Length.set1L : Length.Statement .set1L := ⟨by decide, by decide, rfl⟩

theorem Length.set1MemHl : Length.Statement .set1MemHl := ⟨by decide, by decide, rfl⟩

theorem Length.set1A : Length.Statement .set1A := ⟨by decide, by decide, rfl⟩

theorem Length.set2B : Length.Statement .set2B := ⟨by decide, by decide, rfl⟩

theorem Length.set2C : Length.Statement .set2C := ⟨by decide, by decide, rfl⟩

theorem Length.set2D : Length.Statement .set2D := ⟨by decide, by decide, rfl⟩

theorem Length.set2E : Length.Statement .set2E := ⟨by decide, by decide, rfl⟩

theorem Length.set2H : Length.Statement .set2H := ⟨by decide, by decide, rfl⟩

theorem Length.set2L : Length.Statement .set2L := ⟨by decide, by decide, rfl⟩

theorem Length.set2MemHl : Length.Statement .set2MemHl := ⟨by decide, by decide, rfl⟩

theorem Length.set2A : Length.Statement .set2A := ⟨by decide, by decide, rfl⟩

theorem Length.set3B : Length.Statement .set3B := ⟨by decide, by decide, rfl⟩

theorem Length.set3C : Length.Statement .set3C := ⟨by decide, by decide, rfl⟩

theorem Length.set3D : Length.Statement .set3D := ⟨by decide, by decide, rfl⟩

theorem Length.set3E : Length.Statement .set3E := ⟨by decide, by decide, rfl⟩

theorem Length.set3H : Length.Statement .set3H := ⟨by decide, by decide, rfl⟩

theorem Length.set3L : Length.Statement .set3L := ⟨by decide, by decide, rfl⟩

theorem Length.set3MemHl : Length.Statement .set3MemHl := ⟨by decide, by decide, rfl⟩

theorem Length.set3A : Length.Statement .set3A := ⟨by decide, by decide, rfl⟩

theorem Length.set4B : Length.Statement .set4B := ⟨by decide, by decide, rfl⟩

theorem Length.set4C : Length.Statement .set4C := ⟨by decide, by decide, rfl⟩

theorem Length.set4D : Length.Statement .set4D := ⟨by decide, by decide, rfl⟩

theorem Length.set4E : Length.Statement .set4E := ⟨by decide, by decide, rfl⟩

theorem Length.set4H : Length.Statement .set4H := ⟨by decide, by decide, rfl⟩

theorem Length.set4L : Length.Statement .set4L := ⟨by decide, by decide, rfl⟩

theorem Length.set4MemHl : Length.Statement .set4MemHl := ⟨by decide, by decide, rfl⟩

theorem Length.set4A : Length.Statement .set4A := ⟨by decide, by decide, rfl⟩

theorem Length.set5B : Length.Statement .set5B := ⟨by decide, by decide, rfl⟩

theorem Length.set5C : Length.Statement .set5C := ⟨by decide, by decide, rfl⟩

theorem Length.set5D : Length.Statement .set5D := ⟨by decide, by decide, rfl⟩

theorem Length.set5E : Length.Statement .set5E := ⟨by decide, by decide, rfl⟩

theorem Length.set5H : Length.Statement .set5H := ⟨by decide, by decide, rfl⟩

theorem Length.set5L : Length.Statement .set5L := ⟨by decide, by decide, rfl⟩

theorem Length.set5MemHl : Length.Statement .set5MemHl := ⟨by decide, by decide, rfl⟩

theorem Length.set5A : Length.Statement .set5A := ⟨by decide, by decide, rfl⟩

theorem Length.set6B : Length.Statement .set6B := ⟨by decide, by decide, rfl⟩

theorem Length.set6C : Length.Statement .set6C := ⟨by decide, by decide, rfl⟩

theorem Length.set6D : Length.Statement .set6D := ⟨by decide, by decide, rfl⟩

theorem Length.set6E : Length.Statement .set6E := ⟨by decide, by decide, rfl⟩

theorem Length.set6H : Length.Statement .set6H := ⟨by decide, by decide, rfl⟩

theorem Length.set6L : Length.Statement .set6L := ⟨by decide, by decide, rfl⟩

theorem Length.set6MemHl : Length.Statement .set6MemHl := ⟨by decide, by decide, rfl⟩

theorem Length.set6A : Length.Statement .set6A := ⟨by decide, by decide, rfl⟩

theorem Length.set7B : Length.Statement .set7B := ⟨by decide, by decide, rfl⟩

theorem Length.set7C : Length.Statement .set7C := ⟨by decide, by decide, rfl⟩

theorem Length.set7D : Length.Statement .set7D := ⟨by decide, by decide, rfl⟩

theorem Length.set7E : Length.Statement .set7E := ⟨by decide, by decide, rfl⟩

theorem Length.set7H : Length.Statement .set7H := ⟨by decide, by decide, rfl⟩

theorem Length.set7L : Length.Statement .set7L := ⟨by decide, by decide, rfl⟩

theorem Length.set7MemHl : Length.Statement .set7MemHl := ⟨by decide, by decide, rfl⟩

theorem Length.set7A : Length.Statement .set7A := ⟨by decide, by decide, rfl⟩

end Sys2Proof.Laws
end

