-- ==== Sys2Proof/Tests/Slice0.lean ====
section
/-! SUPPORT. The model's own tests. Expected values come from spec/95_test_vectors.md and the maps of
30_encoding.md, never from the model; the witnesses of the statements with hypotheses stand at the end. -/

open Sys2Proof Sys2Proof.Machine

namespace Sys2Proof.Tests

/-! ## Helpers -/

/-- The conventions of 95_test_vectors.md: the code is the boot image, the cartridge is ROM-only, and a
forwarded read is answered 0xFF. -/
def onBoot (bytes : List Byte) : State :=
  { State.reset with boot := Memory.ofBytes 0x100 bytes, ioAnswers := [0xFF#8] }

/-- A property of the state after one step. -/
def after (s : State) (p : State → Bool) : Bool :=
  match step s with
  | .next t => p t
  | .fault _ => false
  | .refused _ => false

/-- The state after one step (its start where the step answers no next state). -/
def stepped (s : State) : State :=
  match step s with
  | .next t => t
  | .fault _ => s
  | .refused _ => s

/-- The instruction the decoder reads from a list of bytes. -/
def read? (bytes : List Byte) : Option Instr :=
  match decode bytes with
  | .ok (i, _) => some i
  | .error _ => none

/-- One row of the unprefixed map, every operand byte 0x34 then 0x12. -/
def mapRow (hi : Nat) : List Instr :=
  [0, 1, 2, 3, 4, 5, 6, 7, 8, 9, 10, 11, 12, 13, 14, 15].filterMap fun lo =>
    read? [byteOf (16 * hi + lo), 0x34#8, 0x12#8]

/-- One row of the map of the second byte after 0xCB. -/
def cbRow (hi : Nat) : List Instr :=
  [0, 1, 2, 3, 4, 5, 6, 7, 8, 9, 10, 11, 12, 13, 14, 15].filterMap fun lo =>
    read? [0xCB#8, byteOf (16 * hi + lo)]

/-- A cartridge image of zero bytes, `size` (at least 0x150) long, with a type byte and a RAM-size code. -/
def imageOf (size : Nat) (typeByte ramCode : Byte) : List Byte :=
  List.replicate 0x147 0x00#8 ++ [typeByte, 0x00#8, ramCode] ++ List.replicate (size - 0x14A) 0x00#8

/-- The state with code in the boot image and a cartridge with a controller. -/
def withCart (bytes : List Byte) (m : Mapper) (romSize cramSize : Nat) : State :=
  { onBoot bytes with mapper := m, romSize := romSize, cramSize := cramSize }

/-! ## Well-formedness (45_system.md R405) -/

/-- The prefix alone is refused. -/
theorem test_prefix_ill_formed : Instr.wellFormed (.prefixCb 0x37#8) = false := by decide

theorem test_swap_well_formed : Instr.wellFormed .swapA = true := by decide

/-! ## Decoding: every cell of 30_encoding.md R192 and R193 -/

theorem test_map_0x : mapRow 0x0 =
    [.nop, .ldBcD16 0x1234#16, .ldMemBcA, .incBc, .incB, .decB, .ldBD8 0x34#8, .rlca,
     .ldMemA16Sp 0x1234#16, .addHlBc, .ldAMemBc, .decBc, .incC, .decC, .ldCD8 0x34#8, .rrca] := by decide

theorem test_map_1x : mapRow 0x1 =
    [.stop 0x34#8, .ldDeD16 0x1234#16, .ldMemDeA, .incDe, .incD, .decD, .ldDD8 0x34#8, .rla,
     .jrE8 0x34#8, .addHlDe, .ldAMemDe, .decDe, .incE, .decE, .ldED8 0x34#8, .rra] := by decide

theorem test_map_2x : mapRow 0x2 =
    [.jrNzE8 0x34#8, .ldHlD16 0x1234#16, .ldMemHlIncA, .incHl, .incH, .decH, .ldHD8 0x34#8, .daa,
     .jrZE8 0x34#8, .addHlHl, .ldAMemHlInc, .decHl, .incL, .decL, .ldLD8 0x34#8, .cpl] := by decide

theorem test_map_3x : mapRow 0x3 =
    [.jrNcE8 0x34#8, .ldSpD16 0x1234#16, .ldMemHlDecA, .incSp, .incMemHl, .decMemHl, .ldMemHlD8 0x34#8,
     .scf, .jrCE8 0x34#8, .addHlSp, .ldAMemHlDec, .decSp, .incA, .decA, .ldAD8 0x34#8, .ccf] := by decide

theorem test_map_4x : mapRow 0x4 =
    [.ldBB, .ldBC, .ldBD, .ldBE, .ldBH, .ldBL, .ldBMemHl, .ldBA, .ldCB, .ldCC, .ldCD, .ldCE, .ldCH,
     .ldCL, .ldCMemHl, .ldCA] := by decide

theorem test_map_5x : mapRow 0x5 =
    [.ldDB, .ldDC, .ldDD, .ldDE, .ldDH, .ldDL, .ldDMemHl, .ldDA, .ldEB, .ldEC, .ldED, .ldEE, .ldEH,
     .ldEL, .ldEMemHl, .ldEA] := by decide

theorem test_map_6x : mapRow 0x6 =
    [.ldHB, .ldHC, .ldHD, .ldHE, .ldHH, .ldHL, .ldHMemHl, .ldHA, .ldLB, .ldLC, .ldLD, .ldLE, .ldLH,
     .ldLL, .ldLMemHl, .ldLA] := by decide

theorem test_map_7x : mapRow 0x7 =
    [.ldMemHlB, .ldMemHlC, .ldMemHlD, .ldMemHlE, .ldMemHlH, .ldMemHlL, .halt, .ldMemHlA, .ldAB, .ldAC,
     .ldAD, .ldAE, .ldAH, .ldAL, .ldAMemHl, .ldAA] := by decide

theorem test_map_8x : mapRow 0x8 =
    [.addAB, .addAC, .addAD, .addAE, .addAH, .addAL, .addAMemHl, .addAA, .adcAB, .adcAC, .adcAD,
     .adcAE, .adcAH, .adcAL, .adcAMemHl, .adcAA] := by decide

theorem test_map_9x : mapRow 0x9 =
    [.subB, .subC, .subD, .subE, .subH, .subL, .subMemHl, .subA, .sbcAB, .sbcAC, .sbcAD, .sbcAE,
     .sbcAH, .sbcAL, .sbcAMemHl, .sbcAA] := by decide

theorem test_map_Ax : mapRow 0xA =
    [.andB, .andC, .andD, .andE, .andH, .andL, .andMemHl, .andA, .xorB, .xorC, .xorD, .xorE, .xorH,
     .xorL, .xorMemHl, .xorA] := by decide

theorem test_map_Bx : mapRow 0xB =
    [.orB, .orC, .orD, .orE, .orH, .orL, .orMemHl, .orA, .cpB, .cpC, .cpD, .cpE, .cpH, .cpL, .cpMemHl,
     .cpA] := by decide

theorem test_map_Cx : mapRow 0xC =
    [.retNz, .popBc, .jpNzA16 0x1234#16, .jpA16 0x1234#16, .callNzA16 0x1234#16, .pushBc,
     .addAD8 0x34#8, .rst00, .retZ, .ret, .jpZA16 0x1234#16, .swapH, .callZA16 0x1234#16,
     .callA16 0x1234#16, .adcAD8 0x34#8, .rst08] := by decide

theorem test_map_Dx : mapRow 0xD =
    [.retNc, .popDe, .jpNcA16 0x1234#16, .illegalD3, .callNcA16 0x1234#16, .pushDe, .subD8 0x34#8,
     .rst10, .retC, .reti, .jpCA16 0x1234#16, .illegalDB, .callCA16 0x1234#16, .illegalDD,
     .sbcAD8 0x34#8, .rst18] := by decide

theorem test_map_Ex : mapRow 0xE =
    [.ldhMemA8A 0x34#8, .popHl, .ldMemCA, .illegalE3, .illegalE4, .pushHl, .andD8 0x34#8, .rst20,
     .addSpE8 0x34#8, .jpHl, .ldMemA16A 0x1234#16, .illegalEB, .illegalEC, .illegalED, .xorD8 0x34#8,
     .rst28] := by decide

theorem test_map_Fx : mapRow 0xF =
    [.ldhAMemA8 0x34#8, .popAf, .ldAMemC, .di, .illegalF4, .pushAf, .orD8 0x34#8, .rst30,
     .ldHlSpE8 0x34#8, .ldSpHl, .ldAMemA16 0x1234#16, .ei, .illegalFC, .illegalFD, .cpD8 0x34#8, .rst38] := by decide

theorem test_cb_map_0x : cbRow 0x0 =
    [.rlcB, .rlcC, .rlcD, .rlcE, .rlcH, .rlcL, .rlcMemHl, .rlcA, .rrcB, .rrcC, .rrcD, .rrcE, .rrcH,
     .rrcL, .rrcMemHl, .rrcA] := by decide

theorem test_cb_map_1x : cbRow 0x1 =
    [.rlB, .rlC, .rlD, .rlE, .rlH, .rlL, .rlMemHl, .rlA, .rrB, .rrC, .rrD, .rrE, .rrH, .rrL, .rrMemHl,
     .rrA] := by decide

theorem test_cb_map_2x : cbRow 0x2 =
    [.slaB, .slaC, .slaD, .slaE, .slaH, .slaL, .slaMemHl, .slaA, .sraB, .sraC, .sraD, .sraE, .sraH,
     .sraL, .sraMemHl, .sraA] := by decide

theorem test_cb_map_3x : cbRow 0x3 =
    [.swapB, .swapC, .swapD, .swapE, .swapH, .swapL, .swapMemHl, .swapA, .srlB, .srlC, .srlD, .srlE,
     .srlH, .srlL, .srlMemHl, .srlA] := by decide

theorem test_cb_map_4x : cbRow 0x4 =
    [.bit0B, .bit0C, .bit0D, .bit0E, .bit0H, .bit0L, .bit0MemHl, .bit0A, .bit1B, .bit1C, .bit1D,
     .bit1E, .bit1H, .bit1L, .bit1MemHl, .bit1A] := by decide

theorem test_cb_map_5x : cbRow 0x5 =
    [.bit2B, .bit2C, .bit2D, .bit2E, .bit2H, .bit2L, .bit2MemHl, .bit2A, .bit3B, .bit3C, .bit3D,
     .bit3E, .bit3H, .bit3L, .bit3MemHl, .bit3A] := by decide

theorem test_cb_map_6x : cbRow 0x6 =
    [.bit4B, .bit4C, .bit4D, .bit4E, .bit4H, .bit4L, .bit4MemHl, .bit4A, .bit5B, .bit5C, .bit5D,
     .bit5E, .bit5H, .bit5L, .bit5MemHl, .bit5A] := by decide

theorem test_cb_map_7x : cbRow 0x7 =
    [.bit6B, .bit6C, .bit6D, .bit6E, .bit6H, .bit6L, .bit6MemHl, .bit6A, .bit7B, .bit7C, .bit7D,
     .bit7E, .bit7H, .bit7L, .bit7MemHl, .bit7A] := by decide

theorem test_cb_map_8x : cbRow 0x8 =
    [.res0B, .res0C, .res0D, .res0E, .res0H, .res0L, .res0MemHl, .res0A, .res1B, .res1C, .res1D,
     .res1E, .res1H, .res1L, .res1MemHl, .res1A] := by decide

theorem test_cb_map_9x : cbRow 0x9 =
    [.res2B, .res2C, .res2D, .res2E, .res2H, .res2L, .res2MemHl, .res2A, .res3B, .res3C, .res3D,
     .res3E, .res3H, .res3L, .res3MemHl, .res3A] := by decide

theorem test_cb_map_Ax : cbRow 0xA =
    [.res4B, .res4C, .res4D, .res4E, .res4H, .res4L, .res4MemHl, .res4A, .res5B, .res5C, .res5D,
     .res5E, .res5H, .res5L, .res5MemHl, .res5A] := by decide

theorem test_cb_map_Bx : cbRow 0xB =
    [.res6B, .res6C, .res6D, .res6E, .res6H, .res6L, .res6MemHl, .res6A, .res7B, .res7C, .res7D,
     .res7E, .res7H, .res7L, .res7MemHl, .res7A] := by decide

theorem test_cb_map_Cx : cbRow 0xC =
    [.set0B, .set0C, .set0D, .set0E, .set0H, .set0L, .set0MemHl, .set0A, .set1B, .set1C, .set1D,
     .set1E, .set1H, .set1L, .set1MemHl, .set1A] := by decide

theorem test_cb_map_Dx : cbRow 0xD =
    [.set2B, .set2C, .set2D, .set2E, .set2H, .set2L, .set2MemHl, .set2A, .set3B, .set3C, .set3D,
     .set3E, .set3H, .set3L, .set3MemHl, .set3A] := by decide

theorem test_cb_map_Ex : cbRow 0xE =
    [.set4B, .set4C, .set4D, .set4E, .set4H, .set4L, .set4MemHl, .set4A, .set5B, .set5C, .set5D,
     .set5E, .set5H, .set5L, .set5MemHl, .set5A] := by decide

theorem test_cb_map_Fx : cbRow 0xF =
    [.set6B, .set6C, .set6D, .set6E, .set6H, .set6L, .set6MemHl, .set6A, .set7B, .set7C, .set7D,
     .set7E, .set7H, .set7L, .set7MemHl, .set7A] := by decide

/-! ## One step of each vector of 95_test_vectors.md section 2 -/

/-- 95_test_vectors.md L1 (LD D,A). -/
theorem test_L1_ld_d_a :
    after { onBoot [0x57#8] with a := 0x5A#8 } (fun t => decide (
    t.f = 0x00#8 ∧ t.d = 0x5A#8 ∧ t.pc = 0x0001#16 ∧ t.cycles = 4)) = true := by decide

/-- 95_test_vectors.md L2 (LD B,(HL)). -/
theorem test_L2_ld_b_hl :
    after { onBoot [0x46#8] with
    h := 0xC0#8, l := 0x10#8, wram := [(0x10, 0x99#8)] } (fun t => decide (
    t.f = 0x00#8 ∧ t.b = 0x99#8 ∧ t.pc = 0x0001#16 ∧ t.cycles = 8)) = true := by decide

/-- 95_test_vectors.md L3 (LD (HL),H). -/
theorem test_L3_ld_hl_h :
    after { onBoot [0x74#8] with h := 0xC0#8, l := 0x20#8 } (fun t => decide (
    t.f = 0x00#8 ∧ t.pc = 0x0001#16 ∧ t.peek 0xC020#16 = some 0xC0#8 ∧ t.cycles = 8)) = true := by decide

/-- 95_test_vectors.md L4 (LD (HL),d8). -/
theorem test_L4_ld_hl_d8 :
    after { onBoot [0x36#8, 0x7E#8] with h := 0xC0#8, l := 0x00#8 } (fun t => decide (
    t.f = 0x00#8 ∧ t.pc = 0x0002#16 ∧ t.peek 0xC000#16 = some 0x7E#8 ∧ t.cycles = 12)) = true := by decide

/-- 95_test_vectors.md L5 (LD A,(DE)). -/
theorem test_L5_ld_a_de :
    after { onBoot [0x1A#8] with
    d := 0xC1#8, e := 0x23#8, wram := [(0x123, 0x42#8)] } (fun t => decide (
    t.f = 0x00#8 ∧ t.a = 0x42#8 ∧ t.pc = 0x0001#16 ∧ t.cycles = 8)) = true := by decide

/-- 95_test_vectors.md L6 (LD (HL+),A). -/
theorem test_L6_ld_hl_a :
    after { onBoot [0x22#8] with a := 0x11#8, h := 0xC0#8, l := 0xFF#8 } (fun t => decide (
    t.f = 0x00#8 ∧ t.h = 0xC1#8 ∧ t.l = 0x00#8 ∧ t.pc = 0x0001#16 ∧ t.peek 0xC0FF#16 = some 0x11#8 ∧
    t.cycles = 8)) = true := by decide

/-- 95_test_vectors.md L7 (LD A,(HL-)). -/
theorem test_L7_ld_a_hl :
    after { onBoot [0x3A#8] with
    h := 0xC0#8, l := 0x00#8, wram := [(0x0, 0x33#8)] } (fun t => decide (
    t.f = 0x00#8 ∧ t.a = 0x33#8 ∧ t.h = 0xBF#8 ∧ t.l = 0xFF#8 ∧ t.pc = 0x0001#16 ∧ t.cycles = 8)) = true := by decide

/-- 95_test_vectors.md L8 (LD A,(0xE005), echo RAM). -/
theorem test_L8_ld_a_0xe005_echo_ram :
    after { onBoot [0xFA#8, 0x05#8, 0xE0#8] with wram := [(0x5, 0x77#8)] } (fun t => decide (
    t.f = 0x00#8 ∧ t.a = 0x77#8 ∧ t.pc = 0x0003#16 ∧ t.cycles = 16)) = true := by decide

/-- 95_test_vectors.md L9 (LD (0xE010),A, echo RAM). -/
theorem test_L9_ld_0xe010_a_echo_ram :
    after { onBoot [0xEA#8, 0x10#8, 0xE0#8] with a := 0x66#8 } (fun t => decide (
    t.f = 0x00#8 ∧ t.pc = 0x0003#16 ∧ t.peek 0xC010#16 = some 0x66#8 ∧ t.cycles = 16)) = true := by decide

/-- 95_test_vectors.md L10 (LDH A,(0x44), forwarded). -/
theorem test_L10_ldh_a_0x44_forwarded :
    after (onBoot [0xF0#8, 0x44#8]) (fun t => decide (
    t.f = 0x00#8 ∧ t.a = 0xFF#8 ∧ t.pc = 0x0002#16 ∧ t.cycles = 12)) = true := by decide

/-- 95_test_vectors.md L11 (LD (C),A at 0xFF50). -/
theorem test_L11_ld_c_a_at_0xff50 :
    after { onBoot [0xE2#8] with a := 0x01#8, c := 0x50#8 } (fun t => decide (
    t.f = 0x00#8 ∧ t.pc = 0x0001#16 ∧ t.peek 0xFF50#16 = some 0xFF#8 ∧ t.cycles = 8)) = true := by decide

/-- 95_test_vectors.md L12 (LD SP,0xE000). -/
theorem test_L12_ld_sp_0xe000 :
    after (onBoot [0x31#8, 0x00#8, 0xE0#8]) (fun t => decide (
    t.f = 0x00#8 ∧ t.sp = 0xE000#16 ∧ t.pc = 0x0003#16 ∧ t.cycles = 12)) = true := by decide

/-- 95_test_vectors.md L13 (LD (0xC000),SP). -/
theorem test_L13_ld_0xc000_sp :
    after { onBoot [0x08#8, 0x00#8, 0xC0#8] with sp := 0xABCD#16 } (fun t => decide (
    t.f = 0x00#8 ∧ t.pc = 0x0003#16 ∧ t.peek 0xC000#16 = some 0xCD#8 ∧ t.peek 0xC001#16 = some 0xAB#8 ∧
    t.cycles = 20)) = true := by decide

/-- 95_test_vectors.md L14 (LD SP,HL). -/
theorem test_L14_ld_sp_hl :
    after { onBoot [0xF9#8] with h := 0xD0#8, l := 0x00#8 } (fun t => decide (
    t.f = 0x00#8 ∧ t.sp = 0xD000#16 ∧ t.pc = 0x0001#16 ∧ t.cycles = 8)) = true := by decide

/-- 95_test_vectors.md L15 (PUSH BC). -/
theorem test_L15_push_bc :
    after { onBoot [0xC5#8] with b := 0x12#8, c := 0x34#8, sp := 0xC002#16 } (fun t => decide (
    t.f = 0x00#8 ∧ t.sp = 0xC000#16 ∧ t.pc = 0x0001#16 ∧ t.peek 0xC000#16 = some 0x34#8 ∧
    t.peek 0xC001#16 = some 0x12#8 ∧ t.cycles = 16)) = true := by decide

/-- 95_test_vectors.md L16 (POP AF). -/
theorem test_L16_pop_af :
    after { onBoot [0xF1#8] with
    sp := 0xC000#16, wram := [(0x0, 0xFF#8), (0x1, 0x12#8)] } (fun t => decide (
    t.f = 0xF0#8 ∧ t.a = 0x12#8 ∧ t.sp = 0xC002#16 ∧ t.pc = 0x0001#16 ∧ t.cycles = 12)) = true := by decide

/-- 95_test_vectors.md L17 (LD A,(0xFEA0)). -/
theorem test_L17_ld_a_0xfea0 :
    after { onBoot [0xFA#8, 0xA0#8, 0xFE#8] with a := 0x01#8 } (fun t => decide (
    t.a = 0x01#8 ∧ t.pc = 0x0003#16 ∧ t.cycles = 0 ∧
    t.fault = some ⟨.invalidAddress, 0x0000#16, some (.plain 0xFA#8), some 0xFEA0#16, none⟩)) = true := by decide

/-- 95_test_vectors.md L18 (LD (0x2000),A, ROM-only). -/
theorem test_L18_ld_0x2000_a_rom_only :
    after (onBoot [0xEA#8, 0x00#8, 0x20#8]) (fun t => decide (
    t.pc = 0x0003#16 ∧ t.cycles = 0 ∧
    t.fault = some ⟨.illegalWrite, 0x0000#16, some (.plain 0xEA#8), some 0x2000#16, none⟩)) = true := by decide

/-- 95_test_vectors.md L19 (LD HL,0x1234). -/
theorem test_L19_ld_hl_0x1234 :
    after (onBoot [0x21#8, 0x34#8, 0x12#8]) (fun t => decide (
    t.f = 0x00#8 ∧ t.h = 0x12#8 ∧ t.l = 0x34#8 ∧ t.pc = 0x0003#16 ∧ t.cycles = 12)) = true := by decide

/-- 95_test_vectors.md L20 (LD (HL+),A at HL=0xFFFF). -/
theorem test_L20_ld_hl_a_at_hl_0xffff :
    after { onBoot [0x22#8] with a := 0x07#8, h := 0xFF#8, l := 0xFF#8 } (fun t => decide (
    t.h = 0x00#8 ∧ t.l = 0x00#8 ∧ t.pc = 0x0001#16 ∧ t.cycles = 8 ∧ t.ioLog = [.write 0xFFFF#16 0x07#8])) = true := by decide

/-- 95_test_vectors.md A1 (ADD A,C). -/
theorem test_A1_add_a_c :
    after { onBoot [0x81#8] with a := 0x3A#8, c := 0xC6#8 } (fun t => decide (
    t.f = 0xB0#8 ∧ t.a = 0x00#8 ∧ t.pc = 0x0001#16 ∧ t.cycles = 4)) = true := by decide

/-- 95_test_vectors.md A2 (ADC A,B with Cy=1). -/
theorem test_A2_adc_a_b_with_cy_1 :
    after { onBoot [0x88#8] with a := 0x0E#8, b := 0x01#8, f := 0x10#8 } (fun t => decide (
    t.f = 0x20#8 ∧ t.a = 0x10#8 ∧ t.pc = 0x0001#16 ∧ t.cycles = 4)) = true := by decide

/-- 95_test_vectors.md A3 (ADC A,0x00 with Cy=1). -/
theorem test_A3_adc_a_0x00_with_cy_1 :
    after { onBoot [0xCE#8, 0x00#8] with a := 0xFF#8, f := 0x10#8 } (fun t => decide (
    t.f = 0xB0#8 ∧ t.a = 0x00#8 ∧ t.pc = 0x0002#16 ∧ t.cycles = 8)) = true := by decide

/-- 95_test_vectors.md A4 (SUB B, equal). -/
theorem test_A4_sub_b_equal :
    after { onBoot [0x90#8] with a := 0x3E#8, b := 0x3E#8 } (fun t => decide (
    t.f = 0xC0#8 ∧ t.a = 0x00#8 ∧ t.pc = 0x0001#16 ∧ t.cycles = 4)) = true := by decide

/-- 95_test_vectors.md A5 (SUB 0x0F). -/
theorem test_A5_sub_0x0f :
    after { onBoot [0xD6#8, 0x0F#8] with a := 0x0E#8 } (fun t => decide (
    t.f = 0x70#8 ∧ t.a = 0xFF#8 ∧ t.pc = 0x0002#16 ∧ t.cycles = 8)) = true := by decide

/-- 95_test_vectors.md A6 (SBC A,C with Cy=1). -/
theorem test_A6_sbc_a_c_with_cy_1 :
    after { onBoot [0x99#8] with a := 0x10#8, c := 0x0F#8, f := 0x10#8 } (fun t => decide (
    t.f = 0xE0#8 ∧ t.a = 0x00#8 ∧ t.pc = 0x0001#16 ∧ t.cycles = 4)) = true := by decide

/-- 95_test_vectors.md A7 (AND 0x0F). -/
theorem test_A7_and_0x0f :
    after { onBoot [0xE6#8, 0x0F#8] with a := 0xF0#8, f := 0x10#8 } (fun t => decide (
    t.f = 0xA0#8 ∧ t.a = 0x00#8 ∧ t.pc = 0x0002#16 ∧ t.cycles = 8)) = true := by decide

/-- 95_test_vectors.md A8 (XOR A). -/
theorem test_A8_xor_a :
    after { onBoot [0xAF#8] with a := 0x5C#8, f := 0xF0#8 } (fun t => decide (
    t.f = 0x80#8 ∧ t.a = 0x00#8 ∧ t.pc = 0x0001#16 ∧ t.cycles = 4)) = true := by decide

/-- 95_test_vectors.md A9 (OR C). -/
theorem test_A9_or_c :
    after { onBoot [0xB1#8] with a := 0x00#8, c := 0x00#8, f := 0x70#8 } (fun t => decide (
    t.f = 0x80#8 ∧ t.pc = 0x0001#16 ∧ t.cycles = 4)) = true := by decide

/-- 95_test_vectors.md A10 (CP (HL)). -/
theorem test_A10_cp_hl :
    after { onBoot [0xBE#8] with
    a := 0x3C#8, h := 0xC0#8, l := 0x00#8, wram := [(0x0, 0x40#8)] } (fun t => decide (
    t.f = 0x50#8 ∧ t.a = 0x3C#8 ∧ t.pc = 0x0001#16 ∧ t.cycles = 8)) = true := by decide

/-- 95_test_vectors.md A11 (INC A at 0xFF, Cy=1). -/
theorem test_A11_inc_a_at_0xff_cy_1 :
    after { onBoot [0x3C#8] with a := 0xFF#8, f := 0x10#8 } (fun t => decide (
    t.f = 0xB0#8 ∧ t.a = 0x00#8 ∧ t.pc = 0x0001#16 ∧ t.cycles = 4)) = true := by decide

/-- 95_test_vectors.md A12 (INC E at 0x0F). -/
theorem test_A12_inc_e_at_0x0f :
    after { onBoot [0x1C#8] with e := 0x0F#8 } (fun t => decide (
    t.f = 0x20#8 ∧ t.e = 0x10#8 ∧ t.pc = 0x0001#16 ∧ t.cycles = 4)) = true := by decide

/-- 95_test_vectors.md A13 (DEC B at 0x01). -/
theorem test_A13_dec_b_at_0x01 :
    after { onBoot [0x05#8] with b := 0x01#8 } (fun t => decide (
    t.f = 0xC0#8 ∧ t.b = 0x00#8 ∧ t.pc = 0x0001#16 ∧ t.cycles = 4)) = true := by decide

/-- 95_test_vectors.md A14 (DEC C at 0x00). -/
theorem test_A14_dec_c_at_0x00 :
    after { onBoot [0x0D#8] with c := 0x00#8 } (fun t => decide (
    t.f = 0x60#8 ∧ t.c = 0xFF#8 ∧ t.pc = 0x0001#16 ∧ t.cycles = 4)) = true := by decide

/-- 95_test_vectors.md A15 (INC (HL)). -/
theorem test_A15_inc_hl :
    after { onBoot [0x34#8] with
    h := 0xC0#8, l := 0x00#8, wram := [(0x0, 0x7F#8)] } (fun t => decide (
    t.f = 0x20#8 ∧ t.pc = 0x0001#16 ∧ t.peek 0xC000#16 = some 0x80#8 ∧ t.cycles = 12)) = true := by decide

/-- 95_test_vectors.md A16 (DEC (HL)). -/
theorem test_A16_dec_hl :
    after { onBoot [0x35#8] with
    h := 0xC0#8, l := 0x00#8, wram := [(0x0, 0x10#8)] } (fun t => decide (
    t.f = 0x60#8 ∧ t.pc = 0x0001#16 ∧ t.peek 0xC000#16 = some 0x0F#8 ∧ t.cycles = 12)) = true := by decide

/-- 95_test_vectors.md A20 (CPL). -/
theorem test_A20_cpl :
    after { onBoot [0x2F#8] with a := 0x35#8 } (fun t => decide (
    t.f = 0x60#8 ∧ t.a = 0xCA#8 ∧ t.pc = 0x0001#16 ∧ t.cycles = 4)) = true := by decide

/-- 95_test_vectors.md A21 (SCF). -/
theorem test_A21_scf :
    after { onBoot [0x37#8] with f := 0xE0#8 } (fun t => decide (
    t.f = 0x90#8 ∧ t.pc = 0x0001#16 ∧ t.cycles = 4)) = true := by decide

/-- 95_test_vectors.md A22 (CCF). -/
theorem test_A22_ccf :
    after { onBoot [0x3F#8] with f := 0x90#8 } (fun t => decide (
    t.f = 0x80#8 ∧ t.pc = 0x0001#16 ∧ t.cycles = 4)) = true := by decide

/-- 95_test_vectors.md W1 (ADD HL,BC). -/
theorem test_W1_add_hl_bc :
    after { onBoot [0x09#8] with
    h := 0x8A#8, l := 0x23#8, b := 0x06#8, c := 0x05#8 } (fun t => decide (
    t.f = 0x20#8 ∧ t.h = 0x90#8 ∧ t.l = 0x28#8 ∧ t.pc = 0x0001#16 ∧ t.cycles = 8)) = true := by decide

/-- 95_test_vectors.md W2 (ADD HL,HL at 0x8000). -/
theorem test_W2_add_hl_hl_at_0x8000 :
    after { onBoot [0x29#8] with h := 0x80#8, l := 0x00#8 } (fun t => decide (
    t.f = 0x90#8 ∧ t.h = 0x00#8 ∧ t.pc = 0x0001#16 ∧ t.cycles = 8)) = true := by decide

/-- 95_test_vectors.md W2p (same, `ADD16_Z_MODE = preserve`). -/
theorem test_W2p_same_add16_z_mode_preserve :
    after { onBoot [0x29#8] with
    h := 0x80#8, l := 0x00#8, cfg := { add16Z := .preserve } } (fun t => decide (
    t.f = 0x10#8 ∧ t.h = 0x00#8 ∧ t.pc = 0x0001#16 ∧ t.cycles = 8)) = true := by decide

/-- 95_test_vectors.md W3 (ADD HL,SP). -/
theorem test_W3_add_hl_sp :
    after { onBoot [0x39#8] with h := 0x00#8, l := 0x01#8, sp := 0xFFFF#16 } (fun t => decide (
    t.f = 0xB0#8 ∧ t.l = 0x00#8 ∧ t.pc = 0x0001#16 ∧ t.cycles = 8)) = true := by decide

/-- 95_test_vectors.md W4 (INC BC at 0xFFFF). -/
theorem test_W4_inc_bc_at_0xffff :
    after { onBoot [0x03#8] with b := 0xFF#8, c := 0xFF#8, f := 0xB0#8 } (fun t => decide (
    t.f = 0xB0#8 ∧ t.b = 0x00#8 ∧ t.c = 0x00#8 ∧ t.pc = 0x0001#16 ∧ t.cycles = 8)) = true := by decide

/-- 95_test_vectors.md W5 (DEC DE at 0x0000). -/
theorem test_W5_dec_de_at_0x0000 :
    after (onBoot [0x1B#8]) (fun t => decide (
    t.f = 0x00#8 ∧ t.d = 0xFF#8 ∧ t.e = 0xFF#8 ∧ t.pc = 0x0001#16 ∧ t.cycles = 8)) = true := by decide

/-- 95_test_vectors.md W6 (INC SP). -/
theorem test_W6_inc_sp :
    after { onBoot [0x33#8] with sp := 0xC0FF#16 } (fun t => decide (
    t.f = 0x00#8 ∧ t.sp = 0xC100#16 ∧ t.pc = 0x0001#16 ∧ t.cycles = 8)) = true := by decide

/-- 95_test_vectors.md W7 (ADD SP,+1). -/
theorem test_W7_add_sp_1 :
    after { onBoot [0xE8#8, 0x01#8] with sp := 0xC0FF#16 } (fun t => decide (
    t.f = 0x30#8 ∧ t.sp = 0xC100#16 ∧ t.pc = 0x0002#16 ∧ t.cycles = 16)) = true := by decide

/-- 95_test_vectors.md W8 (ADD SP,-1). -/
theorem test_W8_add_sp_1 :
    after { onBoot [0xE8#8, 0xFF#8] with sp := 0xC000#16 } (fun t => decide (
    t.f = 0x00#8 ∧ t.sp = 0xBFFF#16 ∧ t.pc = 0x0002#16 ∧ t.cycles = 16)) = true := by decide

/-- 95_test_vectors.md W9 (ADD SP,-1). -/
theorem test_W9_add_sp_1 :
    after { onBoot [0xE8#8, 0xFF#8] with sp := 0xC001#16 } (fun t => decide (
    t.f = 0x30#8 ∧ t.sp = 0xC000#16 ∧ t.pc = 0x0002#16 ∧ t.cycles = 16)) = true := by decide

/-- 95_test_vectors.md W10 (LD HL,SP+2). -/
theorem test_W10_ld_hl_sp_2 :
    after { onBoot [0xF8#8, 0x02#8] with sp := 0xDFFE#16 } (fun t => decide (
    t.f = 0x30#8 ∧ t.h = 0xE0#8 ∧ t.l = 0x00#8 ∧ t.pc = 0x0002#16 ∧ t.cycles = 12)) = true := by decide

/-- 95_test_vectors.md S1 (RLCA). -/
theorem test_S1_rlca :
    after { onBoot [0x07#8] with a := 0x95#8 } (fun t => decide (
    t.f = 0x10#8 ∧ t.a = 0x2B#8 ∧ t.pc = 0x0001#16 ∧ t.cycles = 4)) = true := by decide

/-- 95_test_vectors.md S2 (RRCA). -/
theorem test_S2_rrca :
    after { onBoot [0x0F#8] with a := 0x01#8 } (fun t => decide (
    t.f = 0x10#8 ∧ t.a = 0x80#8 ∧ t.pc = 0x0001#16 ∧ t.cycles = 4)) = true := by decide

/-- 95_test_vectors.md S3 (RLA with Cy=1). -/
theorem test_S3_rla_with_cy_1 :
    after { onBoot [0x17#8] with a := 0x80#8, f := 0x10#8 } (fun t => decide (
    t.f = 0x10#8 ∧ t.a = 0x01#8 ∧ t.pc = 0x0001#16 ∧ t.cycles = 4)) = true := by decide

/-- 95_test_vectors.md S4 (RRA at 0x01, Cy=0). -/
theorem test_S4_rra_at_0x01_cy_0 :
    after { onBoot [0x1F#8] with a := 0x01#8 } (fun t => decide (
    t.f = 0x90#8 ∧ t.a = 0x00#8 ∧ t.pc = 0x0001#16 ∧ t.cycles = 4)) = true := by decide

/-- 95_test_vectors.md S4c (same, `ACC_ROT_Z_MODE = clear`). -/
theorem test_S4c_same_acc_rot_z_mode_clear :
    after { onBoot [0x1F#8] with a := 0x01#8, cfg := { accRotZ := .clear } } (fun t => decide (
    t.f = 0x10#8 ∧ t.a = 0x00#8 ∧ t.pc = 0x0001#16 ∧ t.cycles = 4)) = true := by decide

/-- 95_test_vectors.md S5 (RLC B). -/
theorem test_S5_rlc_b :
    after { onBoot [0xCB#8, 0x00#8] with b := 0x80#8 } (fun t => decide (
    t.f = 0x10#8 ∧ t.b = 0x01#8 ∧ t.pc = 0x0002#16 ∧ t.cycles = 8)) = true := by decide

/-- 95_test_vectors.md S6 (RRC C). -/
theorem test_S6_rrc_c :
    after { onBoot [0xCB#8, 0x09#8] with c := 0x02#8 } (fun t => decide (
    t.f = 0x00#8 ∧ t.c = 0x01#8 ∧ t.pc = 0x0002#16 ∧ t.cycles = 8)) = true := by decide

/-- 95_test_vectors.md S7 (RL D at 0x80, Cy=0). -/
theorem test_S7_rl_d_at_0x80_cy_0 :
    after { onBoot [0xCB#8, 0x12#8] with d := 0x80#8 } (fun t => decide (
    t.f = 0x90#8 ∧ t.d = 0x00#8 ∧ t.pc = 0x0002#16 ∧ t.cycles = 8)) = true := by decide

/-- 95_test_vectors.md S8 (RR E with Cy=1). -/
theorem test_S8_rr_e_with_cy_1 :
    after { onBoot [0xCB#8, 0x1B#8] with e := 0x00#8, f := 0x10#8 } (fun t => decide (
    t.f = 0x00#8 ∧ t.e = 0x80#8 ∧ t.pc = 0x0002#16 ∧ t.cycles = 8)) = true := by decide

/-- 95_test_vectors.md S9 (SLA H). -/
theorem test_S9_sla_h :
    after { onBoot [0xCB#8, 0x24#8] with h := 0xFF#8 } (fun t => decide (
    t.f = 0x10#8 ∧ t.h = 0xFE#8 ∧ t.pc = 0x0002#16 ∧ t.cycles = 8)) = true := by decide

/-- 95_test_vectors.md S10 (SRA L). -/
theorem test_S10_sra_l :
    after { onBoot [0xCB#8, 0x2D#8] with l := 0x81#8 } (fun t => decide (
    t.f = 0x10#8 ∧ t.l = 0xC0#8 ∧ t.pc = 0x0002#16 ∧ t.cycles = 8)) = true := by decide

/-- 95_test_vectors.md S11 (SWAP A with Cy=1). -/
theorem test_S11_swap_a_with_cy_1 :
    after { onBoot [0xCB#8, 0x37#8] with a := 0xF1#8, f := 0x10#8 } (fun t => decide (
    t.f = 0x00#8 ∧ t.a = 0x1F#8 ∧ t.pc = 0x0002#16 ∧ t.cycles = 8)) = true := by decide

/-- 95_test_vectors.md S12 (SRL A). -/
theorem test_S12_srl_a :
    after { onBoot [0xCB#8, 0x3F#8] with a := 0x01#8 } (fun t => decide (
    t.f = 0x90#8 ∧ t.a = 0x00#8 ∧ t.pc = 0x0002#16 ∧ t.cycles = 8)) = true := by decide

/-- 95_test_vectors.md S13 (RLC (HL)). -/
theorem test_S13_rlc_hl :
    after { onBoot [0xCB#8, 0x06#8] with
    h := 0xC0#8, l := 0x00#8, wram := [(0x0, 0x81#8)] } (fun t => decide (
    t.f = 0x10#8 ∧ t.pc = 0x0002#16 ∧ t.peek 0xC000#16 = some 0x03#8 ∧ t.cycles = 16)) = true := by decide

/-- 95_test_vectors.md S14 (BIT 7,H with Cy=1). -/
theorem test_S14_bit_7_h_with_cy_1 :
    after { onBoot [0xCB#8, 0x7C#8] with h := 0x7F#8, f := 0x10#8 } (fun t => decide (
    t.f = 0xB0#8 ∧ t.pc = 0x0002#16 ∧ t.cycles = 8)) = true := by decide

/-- 95_test_vectors.md S15 (BIT 0,(HL)). -/
theorem test_S15_bit_0_hl :
    after { onBoot [0xCB#8, 0x46#8] with
    h := 0xC0#8, l := 0x00#8, wram := [(0x0, 0x01#8)] } (fun t => decide (
    t.f = 0x20#8 ∧ t.pc = 0x0002#16 ∧ t.cycles = 12)) = true := by decide

/-- 95_test_vectors.md S16 (RES 3,A). -/
theorem test_S16_res_3_a :
    after { onBoot [0xCB#8, 0x9F#8] with a := 0xFF#8, f := 0xF0#8 } (fun t => decide (
    t.f = 0xF0#8 ∧ t.a = 0xF7#8 ∧ t.pc = 0x0002#16 ∧ t.cycles = 8)) = true := by decide

/-- 95_test_vectors.md S17 (SET 7,(HL)). -/
theorem test_S17_set_7_hl :
    after { onBoot [0xCB#8, 0xFE#8] with h := 0xC0#8, l := 0x00#8, wram := [] } (fun t => decide (
    t.f = 0x00#8 ∧ t.pc = 0x0002#16 ∧ t.peek 0xC000#16 = some 0x80#8 ∧ t.cycles = 16)) = true := by decide

/-- 95_test_vectors.md C1 (JP 0x0150). -/
theorem test_C1_jp_0x0150 :
    after (onBoot [0xC3#8, 0x50#8, 0x01#8]) (fun t => decide (
    t.f = 0x00#8 ∧ t.pc = 0x0150#16 ∧ t.cycles = 16)) = true := by decide

/-- 95_test_vectors.md C2 (JP NZ,0x0150 not taken). -/
theorem test_C2_jp_nz_0x0150_not_taken :
    after { onBoot [0xC2#8, 0x50#8, 0x01#8] with f := 0x80#8 } (fun t => decide (
    t.f = 0x80#8 ∧ t.pc = 0x0003#16 ∧ t.cycles = 12)) = true := by decide

/-- 95_test_vectors.md C3 (JP HL). -/
theorem test_C3_jp_hl :
    after { onBoot [0xE9#8] with h := 0xC0#8, l := 0x00#8 } (fun t => decide (
    t.pc = 0xC000#16 ∧ t.cycles = 4)) = true := by decide

/-- 95_test_vectors.md C4 (JR -2). -/
theorem test_C4_jr_2 :
    after (onBoot [0x18#8, 0xFE#8]) (fun t => decide (
    t.pc = 0x0000#16 ∧ t.cycles = 12)) = true := by decide

/-- 95_test_vectors.md C5 (JR +5). -/
theorem test_C5_jr_5 :
    after (onBoot [0x18#8, 0x05#8]) (fun t => decide (
    t.pc = 0x0007#16 ∧ t.cycles = 12)) = true := by decide

/-- 95_test_vectors.md C6 (JR C,+5 taken). -/
theorem test_C6_jr_c_5_taken :
    after { onBoot [0x38#8, 0x05#8] with f := 0x10#8 } (fun t => decide (
    t.f = 0x10#8 ∧ t.pc = 0x0007#16 ∧ t.cycles = 12)) = true := by decide

/-- 95_test_vectors.md C7 (JR C,+5 not taken). -/
theorem test_C7_jr_c_5_not_taken :
    after (onBoot [0x38#8, 0x05#8]) (fun t => decide (
    t.pc = 0x0002#16 ∧ t.cycles = 8)) = true := by decide

/-- 95_test_vectors.md C8 (CALL 0x1234). -/
theorem test_C8_call_0x1234 :
    after { onBoot [0xCD#8, 0x34#8, 0x12#8] with sp := 0xD000#16 } (fun t => decide (
    t.sp = 0xCFFE#16 ∧ t.pc = 0x1234#16 ∧ t.peek 0xCFFE#16 = some 0x03#8 ∧
    t.peek 0xCFFF#16 = some 0x00#8 ∧ t.cycles = 24)) = true := by decide

/-- 95_test_vectors.md C9 (CALL Z,0x1234 not taken). -/
theorem test_C9_call_z_0x1234_not_taken :
    after { onBoot [0xCC#8, 0x34#8, 0x12#8] with sp := 0xD000#16 } (fun t => decide (
    t.sp = 0xD000#16 ∧ t.pc = 0x0003#16 ∧ t.cycles = 12)) = true := by decide

/-- 95_test_vectors.md C10 (RET). -/
theorem test_C10_ret :
    after { onBoot [0xC9#8] with
    sp := 0xCFFE#16, wram := [(0xFFE, 0x50#8), (0xFFF, 0x01#8)] } (fun t => decide (
    t.sp = 0xD000#16 ∧ t.pc = 0x0150#16 ∧ t.cycles = 16)) = true := by decide

/-- 95_test_vectors.md C11 (RET NC taken). -/
theorem test_C11_ret_nc_taken :
    after { onBoot [0xD0#8] with
    sp := 0xCFFE#16, wram := [(0xFFE, 0x50#8), (0xFFF, 0x01#8)] } (fun t => decide (
    t.sp = 0xD000#16 ∧ t.pc = 0x0150#16 ∧ t.cycles = 20)) = true := by decide

/-- 95_test_vectors.md C12 (RET NC not taken). -/
theorem test_C12_ret_nc_not_taken :
    after { onBoot [0xD0#8] with sp := 0xCFFE#16, f := 0x10#8 } (fun t => decide (
    t.sp = 0xCFFE#16 ∧ t.pc = 0x0001#16 ∧ t.cycles = 8)) = true := by decide

/-- 95_test_vectors.md C13 (RETI). -/
theorem test_C13_reti :
    after { onBoot [0xD9#8] with sp := 0xCFFE#16, wram := [(0xFFF, 0xC0#8)] } (fun t => decide (
    t.sp = 0xD000#16 ∧ t.pc = 0xC000#16 ∧ t.ime = true ∧ t.cycles = 16)) = true := by decide

/-- 95_test_vectors.md C14 (RST 0x38). -/
theorem test_C14_rst_0x38 :
    after { onBoot [0xFF#8] with sp := 0xD000#16 } (fun t => decide (
    t.sp = 0xCFFE#16 ∧ t.pc = 0x0038#16 ∧ t.peek 0xCFFE#16 = some 0x01#8 ∧
    t.peek 0xCFFF#16 = some 0x00#8 ∧ t.cycles = 16)) = true := by decide

/-- 95_test_vectors.md C15 (JR -128 from 0x0000). -/
theorem test_C15_jr_128_from_0x0000 :
    after (onBoot [0x18#8, 0x80#8]) (fun t => decide (
    t.pc = 0xFF82#16 ∧ t.cycles = 12)) = true := by decide

/-- 95_test_vectors.md Y1 (NOP). -/
theorem test_Y1_nop :
    after (onBoot [0x00#8]) (fun t => decide (
    t.pc = 0x0001#16 ∧ t.cycles = 4)) = true := by decide

/-- 95_test_vectors.md Y2 (HALT). -/
theorem test_Y2_halt :
    after (onBoot [0x76#8]) (fun t => decide (
    t.pc = 0x0001#16 ∧ t.run = .halted ∧ t.cycles = 4)) = true := by decide

/-- 95_test_vectors.md Y3 (STOP). -/
theorem test_Y3_stop :
    after (onBoot [0x10#8, 0x00#8]) (fun t => decide (
    t.pc = 0x0002#16 ∧ t.run = .stopped ∧ t.cycles = 4)) = true := by decide

/-- 95_test_vectors.md Y4 (EI). -/
theorem test_Y4_ei :
    after (onBoot [0xFB#8]) (fun t => decide (
    t.pc = 0x0001#16 ∧ t.ime = true ∧ t.cycles = 4)) = true := by decide

/-- 95_test_vectors.md Y6 (0xD3, `ILLEGAL_OPCODE_MODE = nop`). -/
theorem test_Y6_0xd3_illegal_opcode_mode_nop :
    after (onBoot [0xD3#8]) (fun t => decide (
    t.pc = 0x0001#16 ∧ t.cycles = 4)) = true := by decide

/-- 95_test_vectors.md Y7 (0xD3, `ILLEGAL_OPCODE_MODE = lock`). -/
theorem test_Y7_0xd3_illegal_opcode_mode_lock :
    after { onBoot [0xD3#8] with cfg := { illegalOpcode := .lock } } (fun t => decide (
    t.pc = 0x0001#16 ∧ t.mark = .locked ∧ t.cycles = 4)) = true := by decide

/-! ## Worked examples of 95_test_vectors.md section 1 and the rows of more than one step, step by step -/

/-- V1: LD B,0x11 then HALT; PC = 0x0003, CYCLES = 12, RUN = Halted. -/
theorem test_V1_load_then_halt :
    after (stepped (onBoot [0x06#8, 0x11#8, 0x76#8])) (fun t => decide (
    t.b = 0x11#8 ∧ t.run = .halted ∧ t.pc = 0x0003#16 ∧ t.cycles = 12 ∧ t.f = 0x00#8)) = true := by decide

/-- V2: the document's ADD A,A. -/
theorem test_V2_add_a_a :
    after { onBoot [0x87#8] with a := 0x0F#8 } (fun t => decide (
    t.a = 0x1E#8 ∧ t.f = 0x20#8 ∧ t.cycles = 4)) = true := by decide

/-- V3: the document's overflow. -/
theorem test_V3_add_overflow :
    after { onBoot [0x80#8] with a := 0xFF#8, b := 0x01#8 } (fun t => decide (
    t.a = 0x00#8 ∧ t.f = 0xB0#8 ∧ t.cycles = 4)) = true := by decide

/-- V5(c): a push into ROM raises at 0x0001 with SP decremented once. -/
theorem test_V5_push_into_rom :
    after { onBoot [0xC5#8] with b := 0x12#8, c := 0x34#8, sp := 0x0002#16 } (fun t => decide (
    t.fault = some ⟨.illegalWrite, 0x0000#16, some (.plain 0xC5#8), some 0x0001#16, none⟩ ∧
    t.sp = 0x0001#16 ∧ t.cycles = 0)) = true := by decide

/-- V6: the pair round trip; AF drops the low nibble. -/
theorem test_V6_pair_round_trip :
    (State.reset.setBc 0x1234#16).bc = 0x1234#16 ∧ (State.reset.setDe 0xFFFF#16).de = 0xFFFF#16 ∧
    (State.reset.setHl 0x1234#16).hl = 0x1234#16 ∧ (State.reset.setAf 0x1234#16).af = 0x1230#16 ∧
    (State.reset.setAf 0xFFFF#16).af = 0xFFF0#16 := by decide

/-- V8(b), (c): type bytes 0xFF, 0x04, 0x0A and 0x1F are refused by construction; 0x00 is ROM-only. -/
theorem test_V8_cartridge_types :
    variantOf 0xFF#8 = none ∧ variantOf 0x04#8 = none ∧ variantOf 0x0A#8 = none ∧ variantOf 0x1F#8 = none ∧
    variantOf 0x00#8 = some .romOnly := by decide

/-- A17, second step: A = 0x3C after 0x15 + 0x27, DAA gives 0x42. -/
theorem test_A17_daa_after_add :
    after { onBoot [0x27#8] with a := 0x3C#8 } (fun t => decide (t.a = 0x42#8 ∧ t.f = 0x00#8)) = true := by
  decide

/-- A18, second step: A = 0x2D with N and Hf after 0x42 - 0x15, DAA gives 0x27. -/
theorem test_A18_daa_after_sub :
    after { onBoot [0x27#8] with a := 0x2D#8, f := 0x60#8 } (fun t => decide (
    t.a = 0x27#8 ∧ t.f = 0x40#8)) = true := by decide

/-- A19, second step: A = 0x9A after 0x99 + 0x01, DAA gives 0x00 and a decimal carry. -/
theorem test_A19_daa_carry :
    after { onBoot [0x27#8] with a := 0x9A#8 } (fun t => decide (t.a = 0x00#8 ∧ t.f = 0x90#8)) = true := by
  decide

/-- M3, last step: external RAM disabled reads 0xFF. -/
theorem test_M3_disabled_ram_reads_ff :
    after (withCart [0xFA#8, 0x00#8, 0xA0#8] (.mbc1 {}) 0x8000 0x2000) (fun t => decide (
    t.a = 0xFF#8 ∧ t.fault = none)) = true := by decide

/-- M4, second step: a mode write of 0x02 raises InvalidBankingMode with the value; MODE stays. -/
theorem test_M4_invalid_mode :
    after { withCart [0x3E#8, 0x02#8, 0xEA#8, 0x00#8, 0x60#8] (.mbc1 {}) 0x8000 0 with
      a := 0x02#8, pc := 0x0002#16 } (fun t => decide (
    t.fault = some ⟨.invalidBankingMode, 0x0002#16, some (.plain 0xEA#8), some 0x6000#16, some 0x02#8⟩ ∧
    t.mapper = .mbc1 {} ∧ t.cycles = 0)) = true := by decide

/-- M5: the upper bits select bank 0x21, and a read past the image raises at 0x4000 without wrapping. -/
theorem test_M5_upper_bits_then_beyond_image :
    after { withCart [0xEA#8, 0x00#8, 0x40#8, 0xFA#8, 0x00#8, 0x40#8] (.mbc1 {}) 0x8000 0 with a := 0x01#8 }
      (fun t => decide (t.mapper = .mbc1 { romBank := 0x21#7 } ∧
        after t (fun u => decide (
        u.fault = some ⟨.invalidAddress, 0x0003#16, some (.plain 0xFA#8), some 0x4000#16, none⟩)) = true)) =
      true := by decide

/-- M6: a fetch in the unmapped hole raises before any opcode is fetched. -/
theorem test_M6_fetch_in_hole :
    after { onBoot [] with pc := 0xFEA0#16 } (fun t => decide (
    t.pc = 0xFEA0#16 ∧ t.fault = some ⟨.invalidAddress, 0xFEA0#16, none, some 0xFEA0#16, none⟩)) = true := by
  decide

/-- M7, second step: a write to the MBC3 class is refused. -/
theorem test_M7_other_variant_refused :
    after (withCart [0xEA#8, 0x00#8, 0x20#8] (.mbc3 {}) 0x8000 0) (fun t => decide (
    t.mark = .refused ∧ t.fault = none ∧ t.pc = 0x0003#16 ∧ t.cycles = 0)) = true := by decide

/-- M8: an external-RAM read of a ROM-only cartridge. -/
theorem test_M8_rom_only_ram_read :
    after (onBoot [0xFA#8, 0x00#8, 0xA0#8]) (fun t => decide (
    t.fault = some ⟨.invalidAddress, 0x0000#16, some (.plain 0xFA#8), some 0xA000#16, none⟩ ∧
    t.pc = 0x0003#16 ∧ t.cycles = 0)) = true := by decide

/-- M10, second and third steps: working RAM and its echo are one byte. -/
theorem test_M10_echo :
    after { onBoot [0xEA#8, 0x23#8, 0xC1#8, 0xFA#8, 0x23#8, 0xE1#8] with a := 0x5A#8 } (fun t =>
      after { t with a := 0x00#8 } (fun u => decide (u.a = 0x5A#8))) = true := by decide

/-- M11: 0xFF50 reads 0xFE at reset, and a write of 0x00 does not unmap. -/
theorem test_M11_boot_status :
    after (onBoot [0xF0#8, 0x50#8]) (fun t => decide (t.a = 0xFE#8)) = true ∧
    after (onBoot [0xE0#8, 0x50#8]) (fun t => decide (t.bootOff = false)) = true := by decide

/-- M12, last step: in RAM-banking mode 0x4000 selects the RAM bank. -/
theorem test_M12_ram_bank :
    after { withCart [0xEA#8, 0x00#8, 0x40#8] (.mbc1 { mode := .ram }) 0x8000 0x8000 with a := 0x02#8 }
      (fun t => decide (t.mapper = .mbc1 { mode := .ram, ramBank := 2#2 })) = true := by decide

/-- M13, M14: bank writes 0x20 and 0xE3. -/
theorem test_M13_bank_zero_forced :
    after { withCart [0xEA#8, 0x00#8, 0x20#8] (.mbc1 {}) 0x8000 0 with a := 0x20#8 }
      (fun t => decide (t.mapper = .mbc1 { romBank := 1#7 })) = true := by decide

theorem test_M14_bank_low_five_bits :
    after { withCart [0xEA#8, 0x00#8, 0x20#8] (.mbc1 {}) 0x8000 0 with a := 0xE3#8 }
      (fun t => decide (t.mapper = .mbc1 { romBank := 3#7 })) = true := by decide

/-- P5, third step: the byte after the unmapping write is fetched from the cartridge. -/
theorem test_P5_boot_hand_off :
    after { onBoot [0x3E#8, 0x01#8, 0xE0#8, 0x50#8] with
      a := 0x01#8, pc := 0x0002#16, rom := Memory.ofBytesFrom 4 [0x06#8, 0x11#8, 0x76#8] }
      (fun t => after t (fun u => decide (u.b = 0x11#8 ∧ u.pc = 0x0006#16))) = true := by decide

/-- The table numbers a CB row 0xCB00 OR cb (98_reader.md, log entry 10). -/
theorem test_table_words :
    decodeTableWord 8 0x76 = some .halt ∧ decodeTableWord 16 0xCB7C = some .bit7H ∧
    decodeTableWord 8 0x08 = some (.ldMemA16Sp 0x0000#16) ∧ decodeTableWord 8 0x10 = some (.stop 0x00#8) := by
  decide

/-- A placed word is the first instruction after reset. -/
theorem test_placed_word_runs :
    after (State.reset.withFetchWord 8 0x76) (fun t => decide (t.run = .halted)) = true ∧
    after (State.reset.withFetchWord 16 0xCBFF) (fun t => decide (t.a = 0x80#8 ∧ t.pc = 0x0002#16)) = true := by
  decide

/-! ## Witnesses: states and operands that meet the hypotheses of the statements -/

/-- A memory computation that completes with a value. -/
def completes {α : Type} (m : Exec α) (s : State) : Bool :=
  match m s with
  | .ok _ _ => true
  | .error _ _ => false

/-- The reset state with HL and SP set. -/
def pointing (hl sp : Word) : State := { State.reset.setHl hl with sp := sp }

/-- The four flags set. -/
def flagsSet : State := { State.reset with f := 0xF0#8 }

theorem witness_DecodeUndoesEncode :
    (Instr.ldMemA16Sp 0xFFFF#16).wellFormed = true ∧ (Instr.stop 0xFF#8).wellFormed = true ∧
    Instr.set7A.wellFormed = true := by decide

theorem witness_EncodeUndoesDecode :
    decode [0xC3#8, 0xFF#8, 0x00#8, 0x76#8] = .ok (.jpA16 0x00FF#16, [0x76#8]) := rfl

theorem witness_FlagsAreIndependent :
    flagsSet.flagsLegal ∧ (0 : Nat) ≠ Flag.carry.bit ∧ (7 : Nat) ≠ Flag.carry.bit := by decide

theorem witness_OperandAccess : Octal.o5 ≠ .o6 ∧ Octal.o7 ≠ .o6 := by decide

set_option maxRecDepth 4000 in
/-- ResetState, HeaderDecides, ResetHasInvariant, ReferenceProfiles, OneEnding: images at the least length and
one byte below it, the last listed type bytes, the last listed RAM code and the first unlisted one. -/
theorem witness_Construct :
    (construct (imageOf 0x150 0x03#8 0x02#8) { initWram := [0x5A#8], initOam := [0x01#8] }).isOk = true ∧
    (construct (imageOf 0x150 0x06#8 0x00#8) { initCram := [0xFF#8] }).isOk = true ∧
    (construct (imageOf 0x150 0x13#8 0x05#8) {}).isOk = true ∧
    (construct (imageOf 0x150 0x1E#8 0x06#8) {}).isOk = true ∧
    (construct (imageOf 0x150 0xFF#8 0x00#8) {}).isOk = false := by decide

set_option maxRecDepth 4000 in
/-- ResetState: a parameter that gives the first and the last byte of OAM. -/
theorem witness_ResetState_oam :
    (List.replicate 0xA0 0x01#8)[0]? = some 0x01#8 ∧ (List.replicate 0xA0 0x01#8)[0x9F]? = some 0x01#8 := by decide

set_option maxRecDepth 4000 in
theorem witness_HeaderDecides_short :
    (imageOf 0x150 0x00#8 0x00#8).length = 0x150 ∧ ((imageOf 0x150 0x00#8 0x00#8).take 0x14F).length = 0x14F := by
  decide

theorem witness_ReadsChangeNothing :
    completes (memRead 0xFF50#16) State.reset = true ∧ completes (memRead 0xFFFF#16) State.reset = true ∧
    completes (memRead 0xFEFF#16) State.reset = false ∧ regionOf 0xFF50#16 ≠ .forwarded := by decide

theorem witness_ReadAfterWrite :
    State.reset.storesWf ∧ State.reset.isStorage 0x8000#16 = true ∧ State.reset.isStorage 0x9FFF#16 = true ∧
    State.reset.isStorage 0xFDFF#16 = true ∧ State.reset.isStorage 0xFE9F#16 = true ∧
    (withCart [] (.mbc1 { ramEn := true }) 0x8000 0x2000).isStorage 0xBFFF#16 = true ∧
    State.reset.home 0xE000#16 ≠ State.reset.home 0xC001#16 := by decide

theorem witness_MapWindows :
    (0xE000 ≤ (0xE000#16).toNat ∧ (0xFDFF#16).toNat ≤ 0xFDFF) ∧ State.reset.storesWf ∧
    (0x00FF#16).toNat ≤ 0x00FF ∧ State.reset.bootOff = false ∧ 0x0100 ≤ (0x0100#16).toNat ∧
    (0x7FFF#16).toNat ≤ 0x7FFF ∧ 0xFEA0 ≤ (0xFEA0#16).toNat ∧ (0xFEFF#16).toNat ≤ 0xFEFF ∧
    completes (memWrite 0x7FFF#16 0x01#8) (withCart [] (.mbc1 {}) 0x8000 0) = true := by decide

theorem witness_RomOnlyCartridge :
    State.reset.mapper = .romOnly ∧ (0x0100#16).toNat ≤ 0x7FFF ∧ 0x0100 ≤ (0x0100#16).toNat ∧
    0xA000 ≤ (0xA000#16).toNat ∧ (0xBFFF#16).toNat ≤ 0xBFFF ∧
    completes (memRead 0x7FFF#16) State.reset = true ∧
    completes (memRead 0x7FFF#16) { State.reset with romSize := 0x7FFF } = false := by decide

/-- Each window at both ends, in both modes, and the two clauses of the ROM-bank write (0x20 is forced). -/
theorem witness_Mbc1ControlWrites :
    let s := withCart [] (.mbc1 {}) 0x8000 0
    let r := withCart [] (.mbc1 { mode := .ram }) 0x8000 0
    s.mapper = .mbc1 {} ∧ r.mapper = .mbc1 { mode := .ram } ∧
    memWrite 0x1FFF#16 0x0A#8 s = .ok () { s with mapper := .mbc1 { ramEn := true } } ∧
    memWrite 0x2000#16 0x20#8 s = .ok () s ∧
    memWrite 0x3FFF#16 0x1F#8 s = .ok () { s with mapper := .mbc1 { romBank := 0x1F#7 } } ∧
    memWrite 0x4000#16 0x03#8 s = .ok () { s with mapper := .mbc1 { romBank := 0x61#7 } } ∧
    memWrite 0x5FFF#16 0x03#8 r = .ok () { r with mapper := .mbc1 { mode := .ram, ramBank := 3#2 } } ∧
    memWrite 0x6000#16 0x01#8 s = .ok () r ∧ memWrite 0x7FFF#16 0x00#8 r = .ok () s ∧
    memWrite 0x7FFF#16 0x02#8 s = .error (.raised .invalidBankingMode 0x7FFF#16 (some 0x02#8)) s :=
  ⟨rfl, rfl, rfl, rfl, rfl, rfl, rfl, rfl, rfl, rfl⟩

theorem witness_Mbc1Translation :
    let s := withCart [] (.mbc1 { ramEn := true, ramBank := 3#2 }) 0x8000 0x8000
    s.mapper = .mbc1 { ramEn := true, ramBank := 3#2 } ∧ completes (memRead 0x3FFF#16) s = true ∧
    completes (memRead 0x7FFF#16) s = true ∧
    completes (memRead 0x4000#16) { s with mapper := .mbc1 { romBank := 2#7 } } = false ∧
    completes (memRead 0xBFFF#16) s = true ∧ completes (memWrite 0xA000#16 0x01#8) s = true ∧
    completes (memWrite 0xBFFF#16 0x01#8) { s with cramSize := 0x7FFF } = false ∧
    memRead 0xA000#16 { s with mapper := .mbc1 {} } = .ok 0xFF#8 { s with mapper := .mbc1 {} } :=
  ⟨rfl, rfl, rfl, rfl, rfl, rfl, rfl, rfl⟩

theorem witness_OtherVariantsRefuse :
    let s := withCart [] (.mbc5 false {}) 0x8000 0x2000
    s.cfg.otherMbc = .refuse ∧ (∀ m, s.mapper ≠ .mbc1 m) ∧ s.mapper ≠ .romOnly ∧
    completes (memRead 0x7FFF#16) s = true ∧ memRead 0xA000#16 s = .error .refused s ∧
    memWrite 0x0000#16 0x0A#8 s = .error .refused s ∧ memWrite 0xBFFF#16 0x0A#8 s = .error .refused s :=
  ⟨rfl, (fun _ h => by cases h), (fun h => by cases h), rfl, rfl, rfl, rfl⟩

/-- The reference mode. -/
def inReference (m : Mapper) : State :=
  { withCart [] m 0x8000 0x2000 with cfg := { otherMbc := .reference } }

/-- Each controller at the ends of its windows. -/
theorem witness_ReferenceProfiles :
    memWrite 0x3EFF#16 0x0A#8 (inReference (.mbc2 {})) = .ok () (inReference (.mbc2 { ramEn := true })) ∧
    memWrite 0x3FFF#16 0x10#8 (inReference (.mbc2 {})) = .ok () (inReference (.mbc2 {})) ∧
    memWrite 0x7FFF#16 0x05#8 (inReference (.mbc2 {})) = .ok () (inReference (.mbc2 {})) ∧
    memRead 0xBFFF#16 (inReference (.mbc2 { ramEn := true })) =
      .ok 0xF0#8 (inReference (.mbc2 { ramEn := true })) ∧
    memWrite 0x1FFF#16 0xFA#8 (inReference (.mbc3 {})) = .ok () (inReference (.mbc3 { ramEn := true })) ∧
    memWrite 0x3FFF#16 0x80#8 (inReference (.mbc3 {})) = .ok () (inReference (.mbc3 {})) ∧
    memWrite 0x5FFF#16 0x03#8 (inReference (.mbc3 {})) = .ok () (inReference (.mbc3 { sel := 3#2 })) ∧
    memWrite 0x4000#16 0x04#8 (inReference (.mbc3 {})) = .error .refused (inReference (.mbc3 {})) ∧
    memWrite 0x2FFF#16 0x00#8 (inReference (.mbc5 true {})) = .ok () (inReference (.mbc5 true { romBank := 0#9 })) ∧
    memWrite 0x3000#16 0xFF#8 (inReference (.mbc5 true {})) =
      .ok () (inReference (.mbc5 true { romBank := 0x101#9 })) ∧
    memWrite 0x5FFF#16 0x0F#8 (inReference (.mbc5 true {})) =
      .ok () (inReference (.mbc5 true { ramBank := 7#4 })) ∧
    memWrite 0x4000#16 0x0F#8 (inReference (.mbc5 false {})) =
      .ok () (inReference (.mbc5 false { ramBank := 0xF#4 })) ∧
    completes (memRead 0xA000#16) (inReference (.mbc5 false { ramEn := true, ramBank := 1#4 })) = false ∧
    completes (memRead 0xBFFF#16) (inReference (.mbc3 { ramEn := true })) = true ∧
    completes (memRead 0x7FFF#16) (inReference (.mbc3 {})) = true :=
  ⟨rfl, rfl, rfl, rfl, rfl, rfl, rfl, rfl, rfl, rfl, rfl, rfl, rfl, rfl, rfl⟩

theorem witness_AccessErrors :
    State.reset.readStop 0xFEA0#16 = some (.raised .invalidAddress 0xFEA0#16 none) ∧
    State.reset.readStop 0xFE9F#16 = none ∧ State.reset.readStop 0xFF00#16 = none ∧
    { State.reset with romSize := 0x200 }.readStop 0x0200#16 = some (.raised .invalidAddress 0x0200#16 none) ∧
    State.reset.writeStop 0x7FFF#16 0x00#8 = some (.raised .illegalWrite 0x7FFF#16 none) ∧
    State.reset.writeStop 0x8000#16 0x00#8 = none ∧
    State.reset.writeStop 0xBFFF#16 0x00#8 = some (.raised .illegalWrite 0xBFFF#16 none) ∧
    { State.reset with pc := 0xFEFF#16 }.readStop 0xFEFF#16 = some (.raised .invalidAddress 0xFEFF#16 none) ∧
    State.reset.readStop State.reset.pc = none := by decide

theorem witness_ForwardedAccesses :
    0xFF00 ≤ (0xFF00#16).toNat ∧ (0xFF00#16).toNat ≠ 0xFF50 ∧ (0xFFFF#16).toNat ≠ 0xFF50 ∧
    (0xFF51#16).toNat ≠ 0xFF50 ∧ (onBoot []).ioAnswers = 0xFF#8 :: [] := by decide

theorem witness_StepRunsDecodedInstruction :
    (onBoot [0x3E#8, 0x5A#8]).isRunning = true ∧ decode [0x3E#8, 0x5A#8] = .ok (.ldAD8 0x5A#8, []) ∧
    fetchBytes 2 (onBoot [0x3E#8, 0x5A#8]) =
      .ok [0x3E#8, 0x5A#8] { onBoot [0x3E#8, 0x5A#8] with pc := 0x0002#16 } ∧
    (onBoot [0x3E#8, 0x5A#8]).peek 0x0000#16 = some 0x3E#8 ∧
    (onBoot [0x3E#8, 0x5A#8]).peek 0x0001#16 = some 0x5A#8 := ⟨rfl, rfl, rfl, rfl, rfl⟩

/-- An instruction whose last byte is at 0xFFFF and wraps: the immediate comes from 0x0000. -/
theorem witness_StepRunsDecodedInstruction_wraps :
    let s := { onBoot [0x11#8] with pc := 0xFFFF#16, ioAnswers := [0x06#8] }
    fetchBytes 2 s =
      .ok [0x06#8, 0x11#8] { s with pc := 0x0001#16, ioAnswers := [], ioLog := [.read 0xFFFF#16 0x06#8] } := rfl

theorem witness_EndedRunsStay :
    { State.reset with run := .stopped }.run ≠ .running ∧
    { State.reset with mark := .locked }.mark ≠ .none ∧
    { State.reset with fault := some ⟨.illegalWrite, 0#16, none, none, none⟩ }.fault ≠ none := by decide

/-- ErrorsAreReported: an error (M4, M6 and M8 above), a refusal (M7), and an opcode fetch that stops. -/
theorem witness_ErrorsAreReported :
    State.reset.isRunning = true ∧
    after (withCart [0xEA#8, 0x00#8, 0x20#8] (.mbc3 {}) 0x8000 0) (fun t => decide (t.mark = .refused)) = true ∧
    { State.reset with pc := 0xFEA0#16 }.readStop 0xFEA0#16 ≠ none ∧
    completes fetch8 (onBoot [0xCB#8, 0x37#8]) = true := by decide

/-- The invariant holds at reset. -/
theorem reset_inv : State.reset.Inv := by decide

theorem witness_StepKeepsInvariant :
    State.reset.Inv ∧ after (onBoot [0x36#8, 0x7E#8]) (fun _ => true) = true := by decide

theorem witness_StepKeepsMachine :
    step (onBoot [0x00#8]) = .next { onBoot [0x00#8] with pc := 0x0001#16, cycles := 4 } := rfl

theorem witness_BootLatch :
    after { onBoot [0x00#8] with bootOff := true } (fun t => t.bootOff) = true ∧
    exec (.ldhMemA8A 0x50#8) { State.reset with a := 0x01#8 } =
      .next { State.reset with a := 0x01#8, bootOff := true, cycles := 12 } := ⟨by decide, rfl⟩

theorem witness_OneEnding :
    State.reset.atMostOneEnding ∧ endingOf State.reset = none ∧
    endingOf { State.reset with run := .halted } = some .halt ∧
    endingOf { State.reset with run := .stopped } = some .stop ∧
    endingOf { State.reset with mark := .refused } = some .refusal ∧
    endingOf { State.reset with mark := .locked } = some .lock ∧
    { State.reset with run := .stopped }.atMostOneEnding := by decide

theorem witness_ImeAndCyclesAreNotRead :
    step (onBoot [0xFB#8]) = .next { onBoot [0xFB#8] with pc := 0x0001#16, ime := true, cycles := 4 } := rfl

/-- FlagFrame, SpPcImeFrame, RegisterFrame, MemoryFrame: a load, a store and a push. -/
theorem witness_Frames :
    exec .ldBA State.reset = .next { State.reset with cycles := 4 } ∧ writesFlags .ldBA = false ∧
    changesSp .ldBA = false ∧ transfersControl .ldBA = false ∧ writesIme .ldBA = false ∧
    Reg.a ∉ destinationRegs .ldBA ∧ storeAddresses .ldBA State.reset = [] ∧
    storeAddresses .pushBc (pointing 0#16 0xC001#16) = [0xC000#16, 0xBFFF#16] ∧
    isDataAddress 0xC000#16 = true ∧ State.reset.home 0xE000#16 ≠ State.reset.home 0xC001#16 := by
  refine ⟨rfl, ?_⟩
  decide

theorem witness_ControlStateFrame :
    exec .halt State.reset = .next { State.reset with run := .halted, cycles := 4 } ∧
    exec .illegalFD { State.reset with cfg := { illegalOpcode := .lock } } =
      .next { State.reset with cfg := { illegalOpcode := .lock }, mark := .locked, cycles := 4 } ∧
    exec (.ldMemA16A 0x0000#16) { withCart [] (.mbc1 {}) 0x8000 0 with a := 0x0A#8 } =
      .next { withCart [] (.mbc1 { ramEn := true }) 0x8000 0 with a := 0x0A#8, cycles := 16 } :=
  ⟨rfl, rfl, rfl⟩

/-- MemoryLoadsComplete, StoresComplete, HlStepFormsComplete: an address that stops and one that does not. -/
theorem witness_LoadsAndStoresComplete :
    (pointing 0xFEA0#16 0#16).readStop (pointing 0xFEA0#16 0#16).hl ≠ none ∧
    (pointing 0xFE9F#16 0#16).readStop (pointing 0xFE9F#16 0#16).hl = none ∧
    (pointing 0xFFFF#16 0#16).readStop (pointing 0xFFFF#16 0#16).hl = none ∧
    (pointing 0xA000#16 0#16).writeStop (pointing 0xA000#16 0#16).hl 0x00#8 ≠ none ∧
    (pointing 0x9FFF#16 0#16).writeStop (pointing 0x9FFF#16 0#16).hl 0x00#8 = none := by decide

/-- StoreSpCompletes: the first write stops; the second stops; neither stops (0xFFFF then 0xFF00 below). -/
theorem witness_StoreSpCompletes :
    State.reset.writeStop 0xFEFF#16 0xFE#8 ≠ none ∧
    State.reset.writeStop 0xFE9F#16 0xFE#8 = none ∧ State.reset.writeStop (0xFE9F#16 + 1#16) 0xFF#8 ≠ none ∧
    State.reset.writeStop 0xDFFE#16 0xFE#8 = none ∧ State.reset.writeStop (0xDFFE#16 + 1#16) 0xFF#8 = none ∧
    State.reset.writeStop (0xFFFF#16 + 1#16) 0xFF#8 ≠ none := by decide

/-- StackPrimitives, PushPopComplete, CallsComplete, ReturnsComplete: a push and a pop that complete, stop at
the first byte, and stop at the second. -/
theorem witness_StackPrimitives :
    completes (push16 0x1234#16) (pointing 0#16 0xC002#16) = true ∧
    completes (push16 0x1234#16) (pointing 0#16 0xFF00#16) = false ∧
    State.reset.writeStop 0xC000#16 0x12#8 = none ∧
    completes (push16 0x1234#16) (pointing 0#16 0xC001#16) = false ∧
    completes pop16 (pointing 0#16 0xDFFF#16) = true ∧
    completes pop16 (pointing 0#16 0xA000#16) = false ∧
    State.reset.readStop 0x9FFF#16 = none ∧ completes pop16 (pointing 0#16 0x9FFF#16) = false := by decide

/-- PopUndoesPush, ReturnUndoesCall: the stack in working RAM and at the top of OAM. -/
theorem witness_PopUndoesPush :
    (pointing 0#16 0xC002#16).storesWf ∧ (pointing 0#16 0xC002#16).flagsLegal ∧
    (pointing 0#16 0xC002#16).isStorage (0xC002#16 - 1#16) = true ∧
    (pointing 0#16 0xC002#16).isStorage (0xC002#16 - 2#16) = true ∧
    (pointing 0#16 0xFEA0#16).isStorage (0xFEA0#16 - 1#16) = true ∧
    (pointing 0#16 0xFEA0#16).isStorage (0xFEA0#16 - 2#16) = true := by decide

/-- AddAdcComplete, SubSbcCpComplete, LogicCompletes, IncDecComplete, CbRotatesComplete, BitResSetComplete: an
operand that is read and written, one that cannot be read, one that can be read and not written. -/
theorem witness_Operands :
    completes (readOperand (.reg .l)) State.reset = true ∧
    completes (readOperand .memHl) (pointing 0xDFFF#16 0#16) = true ∧
    completes (writeOperand .memHl 0x01#8) (pointing 0xDFFF#16 0#16) = true ∧
    completes (readOperand .memHl) (pointing 0xFEA0#16 0#16) = false ∧
    completes (readOperand .memHl) (pointing 0x7FFF#16 0#16) = true ∧
    completes (writeOperand .memHl 0x01#8) (pointing 0x7FFF#16 0#16) = false ∧
    flagsSet.flag .carry = true ∧ State.reset.flag .carry = false := by decide

/-- The operation and carry-in hypotheses of AddAdcComplete and SubSbcCpComplete. -/
theorem witness_CarryIn :
    (1 : Nat) = (if flagsSet.flag .carry then 1 else 0) ∧ (0 : Nat) = (if State.reset.flag .carry then 1 else 0) :=
  by decide

/-- AdjustAndFlagOpsComplete: DAA after an addition with both corrections, and after a subtraction. -/
theorem witness_AdjustAndFlagOpsComplete :
    State.reset.flag .subtract = false ∧ flagsSet.flag .subtract = true ∧ flagsSet.flag .carry = true ∧
    flagsSet.flag .halfCarry = true := by decide

theorem witness_DaaIsDecimal :
    (99 : Nat) < 100 ∧ { State.reset with a := 0x99#8 }.a = byteOf (99 / 10 * 16 + 99 % 10) := by decide

theorem witness_SpOffsetCompletes :
    0xFFFF#16 = BitVec.ofInt 16 (((pointing 0#16 0x0000#16).sp.toNat : Int) + (0xFF#8).toInt) := by decide

/-- JumpsComplete, CallsComplete, ReturnsComplete: every condition holds somewhere and fails somewhere. -/
theorem witness_Conditions :
    State.reset.flag .zero = false ∧ flagsSet.flag .zero = true ∧ State.reset.flag .carry = false ∧
    flagsSet.flag .carry = true := by decide

theorem witness_SystemCompletes :
    State.reset.cfg.illegalOpcode = .nop ∧
    { State.reset with cfg := { illegalOpcode := .lock } }.cfg.illegalOpcode = .lock := by decide

theorem witness_PrefixRunsExtended :
    (onBoot [0xCB#8, 0x06#8]).isRunning = true ∧
    fetch8 (onBoot [0xCB#8, 0x06#8]) = .ok 0xCB#8 { onBoot [0xCB#8, 0x06#8] with pc := 0x0001#16 } ∧
    (pointing 0xFE9F#16 0#16).readStop (pointing 0xFE9F#16 0#16).hl = none ∧
    (∀ v, (pointing 0xFE9F#16 0#16).writeStop (pointing 0xFE9F#16 0#16).hl v = none) :=
  ⟨rfl, rfl, rfl, fun _ => rfl⟩

end Sys2Proof.Tests
end

section
/-! PROOFS. Registers, pair views and flags (10_state.md R32, R35, R36): O5 and O6. -/

namespace Sys2Proof.Machine

theorem toNat_joinBytes (h l : Byte) : (joinBytes h l).toNat = h.toNat * 256 + l.toNat := by
  have hl : l.toNat < 2 ^ 8 := l.isLt
  rw [joinBytes, BitVec.toNat_append, ← Nat.shiftLeft_add_eq_or_of_lt hl, Nat.shiftLeft_eq]

/-- What AF reads back: the mask of F on the low byte is the mask 0xFFF0 on the word (R31, R32). -/
theorem joinBytes_high_maskedLow (w : Word) :
    joinBytes (highByte w) (lowByte w &&& 0xF0#8) = w &&& 0xFFF0#16 := by
  have hmask : joinBytes 0xFF#8 0xF0#8 = 0xFFF0#16 := rfl
  have hhigh : highByte w = highByte w &&& 0xFF#8 := (BitVec.and_allOnes (x := highByte w)).symm
  rw [hhigh, ← hmask]
  simp only [joinBytes]
  rw [← BitVec.and_append]
  exact congrArg (· &&& _) (joinBytes_high_low w)

/-- Settles O5, by the laws of joining two bytes: a pair view is its two registers side by side. -/
theorem pairViewsRoundTrip : Obligations.PairViewsRoundTrip := by
  unfold Obligations.PairViewsRoundTrip
  intro s v
  exact ⟨joinBytes_high_low v, joinBytes_high_low v, joinBytes_high_low v, joinBytes_high_maskedLow v,
    rfl, rfl, rfl, rfl,
    toNat_joinBytes _ _, toNat_joinBytes _ _, toNat_joinBytes _ _, toNat_joinBytes _ _⟩

theorem State.setFlag_eq (s : State) (x : Flag) (v : Bool) :
    s.setFlag x v = { s with f := (s.setFlag x v).f } := rfl

theorem State.flag_setFlag (s : State) (x y : Flag) (v : Bool) :
    (s.setFlag x v).flag y = if y = x then v else s.flag y := by
  unfold State.setFlag
  cases y
  · exact State.flag_setFlags_zero ..
  · exact State.flag_setFlags_subtract ..
  · exact State.flag_setFlags_halfCarry ..
  · exact State.flag_setFlags_carry ..

theorem State.flag_of_f_eq_zero {s : State} (h : s.f = 0x00#8) (x : Flag) : s.flag x = false := by
  rw [State.flag, h, BitVec.getLsbD_zero]

/-- A bit of F is a flag, or one of the four below the flags, or beyond the byte (R35). -/
theorem flagBit_or_low_or_beyond (k : Nat) : (∃ y : Flag, k = y.bit) ∨ k < 4 ∨ 8 ≤ k := by
  by_cases h : k < 4 ∨ 8 ≤ k
  · exact .inr h
  · obtain rfl | rfl | rfl | rfl : k = 4 ∨ k = 5 ∨ k = 6 ∨ k = 7 := by omega
    · exact .inl ⟨.carry, rfl⟩
    · exact .inl ⟨.halfCarry, rfl⟩
    · exact .inl ⟨.subtract, rfl⟩
    · exact .inl ⟨.zero, rfl⟩

theorem State.flagsLegal_setFlag (s : State) (x : Flag) (v : Bool) : (s.setFlag x v).flagsLegal := by
  rw [State.flagsLegal, State.setFlag, State.setFlags_f_eq, packFlags_low]

theorem State.flagsLegal.getLsbD_low {s : State} (hs : s.flagsLegal) {k : Nat} (hk : k < 4) :
    s.f.getLsbD k = false := by
  have hbit := congrArg (BitVec.getLsbD · k) hs
  have hmask : (0x0F#8).getLsbD k = true := by interval_cases k <;> rfl
  simpa [hmask] using hbit

theorem State.getLsbD_setFlag_of_ne {s : State} (hs : s.flagsLegal) {x : Flag} {k : Nat} (hk : k ≠ x.bit)
    (v : Bool) : (s.setFlag x v).f.getLsbD k = s.f.getLsbD k := by
  obtain ⟨y, rfl⟩ | hlow | hbeyond := flagBit_or_low_or_beyond k
  · have hne : y ≠ x := fun e => hk (e ▸ rfl)
    have hflag := State.flag_setFlag s x y v
    rwa [if_neg hne] at hflag
  · rw [hs.getLsbD_low hlow, (s.flagsLegal_setFlag x v).getLsbD_low hlow]
  · rw [BitVec.getLsbD_of_ge _ _ hbeyond, BitVec.getLsbD_of_ge _ _ hbeyond]

/-- Settles O6: a flag write rebuilds F from the four flags, so a bit of F is a flag read back or is zero. -/
theorem flagsAreIndependent : Obligations.FlagsAreIndependent := by
  unfold Obligations.FlagsAreIndependent
  intro s x v
  exact ⟨State.setFlag_eq s x v, fun y => State.flag_setFlag s x y v,
    fun hs _ hk => State.getLsbD_setFlag_of_ne hs hk v⟩

end Sys2Proof.Machine
end

section
/-! PROOFS. The machine right after its construction (10_state.md R55): O8. -/

namespace Sys2Proof.Machine

theorem Memory.read_ofBytes {n k : Nat} {vs : List Byte} {v : Byte} (hk : k < n) (hv : vs[k]? = some v) :
    (Memory.ofBytes n vs).read k = v := by
  have hread := Memory.read_ofBytesFrom 0 k (vs.take n)
  rwa [Nat.zero_add, List.getD_eq_getElem?_getD, List.getElem?_take_of_lt hk, hv] at hread

/-- All that a construction that succeeds can be: the state of the reset table for the variant of the type
byte. -/
theorem construct_ok {image : List Byte} {p : Params} {s : State} (h : construct image p = .ok s) :
    ∃ v, variantOf (imageByte image 0x147) = some v ∧ s = constructed v image p := by
  unfold construct at h
  split at h
  · cases h
  · cases hv : variantOf (imageByte image 0x147) with
    | none => simp [hv] at h
    | some v => exact ⟨v, rfl, by simpa [hv] using h.symm⟩

theorem Variant.variant_mapper (v : Variant) : v.mapper.variant = v := by cases v <;> rfl

theorem Variant.mapper_eq_mbc1 {v : Variant} {m : Mbc1} (h : v.mapper = .mbc1 m) : m = {} := by
  cases v <;> cases h
  rfl

/-- Settles O8: a constructed state is the record `constructed`, and each store of it reads back the list it
was made from. -/
theorem resetState : Obligations.ResetState := by
  unfold Obligations.ResetState
  intro image p s h
  obtain ⟨v, hv, rfl⟩ := construct_ok h
  have hflag : ∀ x, (constructed v image p).flag x = false := State.flag_of_f_eq_zero rfl
  have hmbc1 : ∀ m, v.mapper = .mbc1 m →
      m.ramEn = false ∧ m.romBank = 1#7 ∧ m.ramBank = 0#2 ∧ m.mode = .rom :=
    fun m hm => by rw [Variant.mapper_eq_mbc1 hm]; exact ⟨rfl, rfl, rfl, rfl⟩
  have hrom : ∀ k b, image[k]? = some b → (Memory.ofBytes image.length image).read k = b :=
    fun k b hb => Memory.read_ofBytes (List.getElem?_eq_some_iff.mp hb).1 hb
  have hvariant : variantOf (imageByte image 0x147) = some v.mapper.variant := by
    rw [Variant.variant_mapper, hv]
  exact ⟨rfl, rfl, rfl, rfl, rfl, rfl, rfl, rfl, hflag, rfl, rfl, rfl, rfl, rfl, rfl, rfl, rfl, rfl, rfl,
    fun _ _ => Memory.read_ofBytes, fun _ _ => Memory.read_ofBytes, fun _ _ => Memory.read_ofBytes,
    fun _ _ => Memory.read_ofBytes, hmbc1, rfl, hrom, hvariant, rfl⟩

end Sys2Proof.Machine
end

section
/-! PROOFS. What construction fixes (10_state.md R48, R51): O26. -/

namespace Sys2Proof.Machine

theorem ReadKeeps.sameMachine {s t : State} (h : ReadKeeps s t) : s.sameMachine t := by
  rw [h]
  exact ⟨rfl, rfl, rfl, rfl, rfl, rfl⟩

theorem WriteKeeps.sameMachine {s t : State} (h : WriteKeeps s t) : s.sameMachine t := by
  obtain ⟨heq, hvariant, -⟩ := h
  have hfields := congrArg (fun u : State => (u.rom, u.romSize, u.cramSize, u.boot, u.cfg)) heq
  simp only [Prod.mk.injEq] at hfields
  obtain ⟨hrom, hromSize, hcramSize, hboot, hcfg⟩ := hfields
  exact ⟨hrom, hromSize, hcramSize, hboot, hcfg, hvariant⟩

theorem State.sameMachine_trans {s t u : State} (h1 : s.sameMachine t) (h2 : t.sameMachine u) :
    s.sameMachine u := by
  obtain ⟨r1, z1, c1, b1, g1, v1⟩ := h1
  obtain ⟨r2, z2, c2, b2, g2, v2⟩ := h2
  exact ⟨r2.trans r1, z2.trans z1, c2.trans c1, b2.trans b1, g2.trans g1, v2.trans v1⟩

theorem keptByAccess_sameMachine : KeptByAccess State.sameMachine where
  refl _ := ⟨rfl, rfl, rfl, rfl, rfl, rfl⟩
  trans _ _ _ := State.sameMachine_trans
  read a s := (memRead_keeps a s).sameMachine
  write a v s := (memWrite_keeps a v s).sameMachine

theorem keptBy_sameMachine (p : Part) : KeptBy State.sameMachine p := by
  cases p with
  | reg r => intro s v; cases r <;> exact ⟨rfl, rfl, rfl, rfl, rfl, rfl⟩
  | run => intro s v _; exact ⟨rfl, rfl, rfl, rfl, rfl, rfl⟩
  | mark => intro s; exact ⟨rfl, rfl, rfl, rfl, rfl, rfl⟩
  | flags | sp | pc | ime => intro s v; exact ⟨rfl, rfl, rfl, rfl, rfl, rfl⟩

/-- Settles O26: byte accesses, writes to the parts of the state and the end of a run all keep the machine. -/
theorem stepKeepsMachine : Obligations.StepKeepsMachine := by
  unfold Obligations.StepKeepsMachine
  intro s t h
  refine keeps_step keptByAccess_sameMachine (fun _ _ => ⟨rfl, rfl, rfl, rfl, rfl, rfl⟩) ?_
    keptBy_sameMachine h
  intro u why pc op
  cases why <;> exact ⟨rfl, rfl, rfl, rfl, rfl, rfl⟩

end Sys2Proof.Machine
end

section
/-! PROOFS. What an instruction leaves unwritten (10_state.md R34, R37-R41): the frames O30, O31, O32. -/

namespace Sys2Proof.Machine

/-- A part of the state is as it was. MARK may have become `refused`, which no instruction writes itself: a
refused access does (60_exceptions.md R436). -/
def Part.Unwritten : Part → State → State → Prop
  | .reg r, s, t => t.getReg r = s.getReg r
  | .flags, s, t => t.f = s.f
  | .sp, s, t => t.sp = s.sp
  | .pc, s, t => t.pc = s.pc
  | .ime, s, t => t.ime = s.ime
  | .run, s, t => t.run = s.run
  | .mark, s, t => t.mark = s.mark ∨ t.mark = .refused

namespace Part.Unwritten

theorem refl (q : Part) (s : State) : q.Unwritten s s := by
  cases q with
  | mark => exact .inl rfl
  | reg | flags | sp | pc | ime | run => exact rfl

theorem trans (q : Part) (s t u : State) (h1 : q.Unwritten s t) (h2 : q.Unwritten t u) : q.Unwritten s u := by
  cases q with
  | mark =>
    obtain h2 | h2 := h2
    · exact h1.imp h2.trans h2.trans
    · exact .inr h2
  | reg | flags | sp | pc | ime | run => exact Eq.trans h2 h1

theorem of_readKeeps (q : Part) {s t : State} (h : ReadKeeps s t) : q.Unwritten s t := by
  rw [h]
  cases q with
  | reg r => cases r <;> rfl
  | mark => exact .inl rfl
  | flags | sp | pc | ime | run => exact rfl

theorem of_writeKeeps (q : Part) {s t : State} (h : WriteKeeps s t) : q.Unwritten s t := by
  rw [h.1]
  cases q with
  | reg r => cases r <;> rfl
  | mark => exact .inl rfl
  | flags | sp | pc | ime | run => exact rfl

theorem keptByAccess (q : Part) : KeptByAccess q.Unwritten where
  refl := refl q
  trans := trans q
  read a s := of_readKeeps q (memRead_keeps a s)
  write a v s := of_writeKeeps q (memWrite_keeps a v s)

theorem addCycles (q : Part) (s : State) (n : Nat) : q.Unwritten s (s.addCycles n) := by
  cases q with
  | reg r => exact s.addCycles_getReg n r
  | mark => exact .inl rfl
  | flags | sp | pc | ime | run => exact rfl

theorem endRun (q : Part) (s : State) (why : Stop) (pc : Word) (op : Option Opcode) :
    q.Unwritten s (s.endRun why pc op) := by
  cases q with
  | reg r => exact s.endRun_getReg why pc op r
  | mark =>
    cases why with
    | raised => exact .inl rfl
    | refused => exact .inr rfl
  | flags | sp | pc | ime | run => cases why <;> exact rfl

theorem setReg {r : Reg} {q : Part} (h : .reg r ≠ q) (s : State) (v : Byte) :
    q.Unwritten s (s.setReg r v) := by
  cases q with
  | reg q =>
    have hne : q ≠ r := fun e => h (e ▸ rfl)
    exact (s.getReg_setReg r q v).trans (if_neg hne)
  | mark => exact .inl (s.setReg_mark r v)
  | flags | sp | pc | ime | run => cases r <;> exact rfl

/-- A write to one part leaves the others. -/
theorem keptBy {p q : Part} (h : p ≠ q) : KeptBy q.Unwritten p := by
  cases p with
  | reg r => exact setReg h
  | flags | sp | pc | ime =>
    intro s v
    cases q with
    | reg r => cases r <;> rfl
    | mark => exact .inl rfl
    | flags | sp | pc | ime | run => first | exact rfl | exact absurd rfl h
  | run =>
    intro s v _
    cases q with
    | reg r => cases r <;> rfl
    | mark => exact .inl rfl
    | run => exact absurd rfl h
    | flags | sp | pc | ime => exact rfl
  | mark =>
    intro s
    cases q with
    | reg r => cases r <;> rfl
    | mark => exact absurd rfl h
    | flags | sp | pc | ime | run => exact rfl

end Part.Unwritten

/-- The frame of every instruction: a part it may not change is as it was. -/
theorem exec_unwritten {i : Instr} {q : Part} (hq : Changes i q = false) {s t : State}
    (h : exec i s = .next t) : q.Unwritten s t := by
  refine keeps_exec (Part.Unwritten.keptByAccess q) (Part.Unwritten.addCycles q) (Part.Unwritten.endRun q) i
    (fun p hp => Part.Unwritten.keptBy ?_) h
  rintro rfl
  rw [hq] at hp
  cases hp

/-- Settles O30, by the frame of the flags. -/
theorem flagFrame : Obligations.FlagFrame := by
  unfold Obligations.FlagFrame
  exact fun _ _ _ h hi => exec_unwritten (q := .flags) hi h

/-- Settles O31, by the frames of SP, PC and IME. -/
theorem spPcImeFrame : Obligations.SpPcImeFrame := by
  unfold Obligations.SpPcImeFrame
  exact fun _ _ _ h => ⟨fun hi => exec_unwritten (q := .sp) hi h, fun hi => exec_unwritten (q := .pc) hi h,
    fun hi => exec_unwritten (q := .ime) hi h⟩

/-- Settles O32, by the frame of the register. -/
theorem registerFrame : Obligations.RegisterFrame := by
  unfold Obligations.RegisterFrame
  exact fun _ _ _ r h hr => exec_unwritten (q := .reg r) (decide_eq_false hr) h

end Sys2Proof.Machine
end

section
/-! PROOFS. Computations that do not read IME and CYCLES (10_state.md R40, R44): they run the same, step by
step, from a state with another IME and another CYCLES. -/

namespace Sys2Proof.Machine

/-- The state with IME and CYCLES set to other values. -/
def State.veil (s : State) (b : Bool) (n : Nat) : State := { s with ime := b, cycles := n }

/-- The result of a computation with IME and CYCLES of the state it leaves set to other values. -/
def veilResult {α : Type} (b : Bool) (n : Nat) :
    EStateM.Result Stop State α → EStateM.Result Stop State α
  | .ok v s => .ok v (s.veil b n)
  | .error why s => .error why (s.veil b n)

theorem eq_veilResult_ite {α : Type} {p : Prop} [Decidable p] {b : Bool} {n : Nat}
    {x x' y y' : EStateM.Result Stop State α} (hx : x' = veilResult b n x) (hy : y' = veilResult b n y) :
    (if p then x' else y') = veilResult b n (if p then x else y) := by
  split
  · exact hx
  · exact hy

/-- A computation that neither reads nor writes IME and CYCLES: another IME and another CYCLES in the state it
starts on are carried to the state it leaves, and nothing else is different. -/
def Blind {α : Type} (x : Exec α) : Prop := ∀ s b n, x (s.veil b n) = veilResult b n (x s)

namespace Blind

variable {α β : Type}

theorem pure (v : α) : Blind (Pure.pure v : Exec α) := fun _ _ _ => rfl

theorem look {f : State → α} (hf : ∀ s b n, f (s.veil b n) = f s) : Blind (look f) := by
  intro s b n
  simp only [look_apply, hf, veilResult]

theorem update {f : State → State} (hf : ∀ s b n, f (s.veil b n) = (f s).veil b n) :
    Blind (update f) := by
  intro s b n
  simp only [update_apply, hf, veilResult]

theorem bind {x : Exec α} {f : α → Exec β} (hx : Blind x) (hf : ∀ v, Blind (f v)) :
    Blind (x >>= f) := by
  intro s b n
  rw [Exec.bind_apply, Exec.bind_apply, hx]
  cases x s with
  | ok v s' => exact hf v s' b n
  | error why s' => rfl

theorem ite {p : Prop} [Decidable p] {x y : Exec α} (hx : Blind x) (hy : Blind y) :
    Blind (if p then x else y) := by
  split
  · exact hx
  · exact hy

/-! ### Byte accesses -/

theorem raise (kind : Fault) (a : Word) (v : Option Byte) : Blind (raise kind a v : Exec α) :=
  fun _ _ _ => rfl

theorem refuseAccess : Blind (refuseAccess : Exec α) := fun _ _ _ => rfl

theorem romRead (a : Word) (offset : Nat) : Blind (romRead a offset) := fun s b n =>
  eq_veilResult_ite rfl (raise _ _ _ s b n)

theorem cramRead (en : Bool) (bank : Nat) (a : Word) : Blind (cramRead en bank a) := fun _ _ _ =>
  eq_veilResult_ite (eq_veilResult_ite rfl rfl) rfl

theorem cram2Read (en : Bool) (a : Word) : Blind (cram2Read en a) := fun _ _ _ =>
  eq_veilResult_ite rfl rfl

theorem cramWrite (en : Bool) (bank : Nat) (a : Word) (v : Byte) : Blind (cramWrite en bank a v) :=
  fun _ _ _ => eq_veilResult_ite (eq_veilResult_ite rfl rfl) rfl

theorem cram2Write (en : Bool) (a : Word) (v : Byte) : Blind (cram2Write en a v) := fun _ _ _ =>
  eq_veilResult_ite rfl rfl

theorem unspecifiedRead (a : Word) : Blind (unspecifiedRead a) := ite (romRead a _) refuseAccess

theorem cartRead (a : Word) : Blind (cartRead a) := by
  intro s b n
  have hmapper : (s.veil b n).mapper = s.mapper := rfl
  have hcfg : (s.veil b n).cfg = s.cfg := rfl
  simp only [Machine.cartRead, hmapper, hcfg]
  split
  · exact eq_veilResult_ite (romRead a _ s b n) (raise _ _ _ s b n)
  · exact eq_veilResult_ite (romRead a _ s b n) (cramRead _ _ a s b n)
  · exact eq_veilResult_ite (romRead a _ s b n) (cram2Read _ a s b n)
  · exact eq_veilResult_ite (romRead a _ s b n) (cramRead _ _ a s b n)
  · exact eq_veilResult_ite (romRead a _ s b n) (cramRead _ _ a s b n)
  · exact unspecifiedRead a s b n
  · exact unspecifiedRead a s b n
  · exact unspecifiedRead a s b n

theorem cartWrite (a : Word) (v : Byte) : Blind (cartWrite a v) := by
  intro s b n
  have hmapper : (s.veil b n).mapper = s.mapper := rfl
  have hcfg : (s.veil b n).cfg = s.cfg := rfl
  have hset : ∀ m : Mapper, Blind (Machine.update fun u => { u with mapper := m }) :=
    fun _ => update fun _ _ _ => rfl
  simp only [Machine.cartWrite, hmapper, hcfg]
  split
  · exact raise _ _ _ s b n
  · exact eq_veilResult_ite (eq_veilResult_ite (raise _ _ _ s b n) (hset _ s b n)) (cramWrite _ _ a v s b n)
  · exact eq_veilResult_ite (hset _ s b n) (cram2Write _ a v s b n)
  · exact eq_veilResult_ite (eq_veilResult_ite (refuseAccess s b n) (hset _ s b n)) (cramWrite _ _ a v s b n)
  · exact eq_veilResult_ite (hset _ s b n) (cramWrite _ _ a v s b n)
  · exact refuseAccess s b n
  · exact refuseAccess s b n
  · exact refuseAccess s b n

theorem ioRead (a : Word) : Blind (ioRead a) := by
  intro s b n
  have hanswers : (s.veil b n).ioAnswers = s.ioAnswers := rfl
  simp only [Machine.ioRead, hanswers]
  split <;> rfl

theorem memRead (a : Word) : Blind (memRead a) := by
  intro s b n
  simp only [Machine.memRead]
  cases regionOf a with
  | cartRom => exact eq_veilResult_ite rfl (cartRead a s b n)
  | cartRam => exact cartRead a s b n
  | forwarded => exact ioRead a s b n
  | vram | wram | echo | oam | unmapped | bootStatus => rfl

theorem memWrite (a : Word) (v : Byte) : Blind (memWrite a v) := by
  intro s b n
  simp only [Machine.memWrite]
  cases regionOf a with
  | cartRom | cartRam => exact cartWrite a v s b n
  | bootStatus =>
    by_cases hv : v = 0x00#8 <;> simp [hv, veilResult, State.veil]
  | vram | wram | echo | oam | unmapped | forwarded => rfl

/-! ### The operations on the instruction stream, the stack and the operands -/

theorem fetch8 : Blind fetch8 :=
  bind (look fun _ _ _ => rfl) fun _ => bind (memRead _) fun _ =>
    bind (update fun _ _ _ => rfl) fun _ => pure _

theorem fetch16 : Blind fetch16 := bind fetch8 fun _ => bind fetch8 fun _ => pure _

theorem fetchRest (op : Byte) : Blind (fetchRest op) := by
  unfold Machine.fetchRest
  split
  · exact pure _
  · exact bind fetch8 fun _ => pure _
  · exact bind fetch16 fun _ => pure _
  · exact bind fetch8 fun _ => pure _

theorem pushByte (v : Byte) : Blind (pushByte v) :=
  bind (update fun _ _ _ => rfl) fun _ => bind (look fun _ _ _ => rfl) fun _ => memWrite _ v

theorem push16 (v : Word) : Blind (push16 v) := bind (pushByte _) fun _ => pushByte _

theorem popByte : Blind popByte :=
  bind (look fun _ _ _ => rfl) fun _ => bind (memRead _) fun _ =>
    bind (update fun _ _ _ => rfl) fun _ => pure _

theorem pop16 : Blind pop16 := bind popByte fun _ => bind popByte fun _ => pure _

theorem readOperand (o : Operand) : Blind (readOperand o) := by
  cases o with
  | reg r => exact look fun s b n => by cases r <;> rfl
  | memHl => exact bind (look fun _ _ _ => rfl) fun _ => memRead _

theorem writeOperand (o : Operand) (v : Byte) : Blind (writeOperand o v) := by
  cases o with
  | reg r => exact update fun s b n => by cases r <;> rfl
  | memHl => exact bind (look fun _ _ _ => rfl) fun _ => memWrite _ v

theorem call (a : Word) : Blind (call a) :=
  bind (look fun _ _ _ => rfl) fun _ => bind (push16 _) fun _ => update fun _ _ _ => rfl

theorem return16 : Blind return16 := bind pop16 fun _ => update fun _ _ _ => rfl

theorem taking {n : Nat} {body : Exec Unit} (h : Blind body) : Blind (taking n body) := bind h fun _ => pure _

theorem branch {cc : Cond} {n m : Nat} {body : Exec Unit} (h : Blind body) : Blind (branch cc n m body) :=
  bind (look fun s b n => by cases cc <;> rfl) fun _ => ite (taking h) (pure m)

end Blind
end Sys2Proof.Machine
end

section
/-! PROOFS. What an instruction does to the stores, and that it does not read IME and CYCLES: one lemma per
shared pseudocode (Machine/Loads.lean to System.lean). -/

namespace Sys2Proof.Machine

/-! ## The stores an instruction reaches -/

/-- The memory of two states is the same, with the bank registers, the boot latch and the configuration. -/
def SameStores (s t : State) : Prop :=
  t = { s with
    a := t.a, b := t.b, c := t.c, d := t.d, e := t.e, f := t.f, h := t.h, l := t.l, sp := t.sp, pc := t.pc
    ime := t.ime, run := t.run, fault := t.fault, mark := t.mark, cycles := t.cycles
    ioAnswers := t.ioAnswers, ioLog := t.ioLog }

theorem SameStores.refl (s : State) : SameStores s s := rfl

theorem SameStores.trans (s t u : State) (h1 : SameStores s t) (h2 : SameStores t u) : SameStores s u := by
  rw [SameStores, h1] at h2
  exact h2

/-- The second state is reached from the first by byte writes at the addresses of a list; between them, no
store changes. -/
inductive Stored (as : List Word) : State → State → Prop where
  | same {s t : State} : SameStores s t → Stored as s t
  | write {s : State} {a : Word} (v : Byte) : a ∈ as → Stored as s (stateOf (memWrite a v s))
  | trans {s t u : State} : Stored as s t → Stored as t u → Stored as s u

theorem Stored.refl (as : List Word) (s : State) : Stored as s s := .same rfl

theorem Stored.bind {α β : Type} {as : List Word} {x : Exec α} {f : α → Exec β} {s : State}
    (hx : Stored as s (stateOf (x s)))
    (hf : ∀ v s', x s = .ok v s' → Stored as s' (stateOf (f v s'))) :
    Stored as s (stateOf ((x >>= f) s)) := by
  rw [Exec.bind_apply]
  cases hxs : x s with
  | ok v s' =>
    rw [hxs] at hx
    exact hx.trans (hf v s' hxs)
  | error why s' =>
    rw [hxs] at hx
    exact hx

/-- A computation that writes no store. -/
abbrev StoresNothing {α : Type} (x : Exec α) : Prop := Keeps SameStores x

namespace StoresNothing

variable {α β : Type}

theorem pure (v : α) : StoresNothing (Pure.pure v : Exec α) := keeps_pure SameStores.refl v

theorem look (f : State → α) : StoresNothing (look f) := keeps_look SameStores.refl f

theorem bind {x : Exec α} {f : α → Exec β} (hx : StoresNothing x) (hf : ∀ v, StoresNothing (f v)) :
    StoresNothing (x >>= f) := keeps_bind SameStores.trans hx hf

theorem memRead (a : Word) : StoresNothing (memRead a) := fun s => by
  rw [memRead_keeps a s]
  rfl

theorem readOperand (o : Operand) : StoresNothing (readOperand o) := by
  cases o with
  | reg r => exact look _
  | memHl => exact bind (look _) fun _ => memRead _

theorem popByte : StoresNothing popByte :=
  bind (look _) fun _ => bind (memRead _) fun _ => bind (keeps_update fun _ => rfl) fun _ => pure _

theorem pop16 : StoresNothing pop16 := bind popByte fun _ => bind popByte fun _ => pure _

theorem return16 : StoresNothing return16 := bind pop16 fun _ => keeps_update fun _ => rfl

theorem taking {n : Nat} {x : Exec Unit} (h : StoresNothing x) : StoresNothing (taking n x) :=
  bind h fun _ => pure _

theorem branch {cc : Cond} {n m : Nat} {x : Exec Unit} (h : StoresNothing x) :
    StoresNothing (branch cc n m x) := keeps_branch SameStores.refl SameStores.trans h

end StoresNothing

/-- The address an operand is stored to (43_rotate_shift_bit.md R330). -/
def operandAddresses : Operand → State → List Word
  | .reg _, _ => []
  | .memHl, s => [s.hl]

theorem ReadKeeps.operandAddresses {s t : State} (h : ReadKeeps s t) (o : Operand) :
    operandAddresses o t = operandAddresses o s := by
  rw [h]
  cases o <;> rfl

theorem readOperand_ok {o : Operand} {v : Byte} {s t : State} (h : readOperand o s = .ok v t) :
    ReadKeeps s t := by
  cases o with
  | reg r => cases h; rfl
  | memHl => exact memRead_ok h

theorem SameStores.setReg (s : State) (r : Reg) (v : Byte) : SameStores s (s.setReg r v) := by cases r <;> rfl

theorem SameStores.setPair (s : State) (p : Pair) (v : Word) : SameStores s (s.setPair p v) := by
  cases p <;> rfl

theorem SameStores.setStackPair (s : State) (p : StackPair) (v : Word) :
    SameStores s (s.setStackPair p v) := by
  cases p <;> rfl

theorem SameStores.alu (s : State) (op : AluOp) (v : Byte) : SameStores s (s.alu op v) := by cases op <;> rfl

theorem SameStores.endRun (s : State) (why : Stop) (pc : Word) (op : Option Opcode) :
    SameStores s (s.endRun why pc op) := by cases why <;> rfl

theorem stored_writeOperand (o : Operand) (v : Byte) (s : State) :
    Stored (operandAddresses o s) s (stateOf (writeOperand o v s)) := by
  cases o with
  | reg r => exact .same (.setReg s r v)
  | memHl => exact .write v (List.mem_singleton.mpr rfl)

/-- Reading an operand does not move it: what follows stores where the operand stood before. -/
theorem stored_readOperand_bind {α : Type} {o : Operand} {f : Byte → Exec α}
    (hf : ∀ v s, Stored (operandAddresses o s) s (stateOf (f v s))) (s : State) :
    Stored (operandAddresses o s) s (stateOf ((readOperand o >>= f) s)) :=
  .bind (.same (StoresNothing.readOperand o s)) fun v t ht => by
    rw [← (readOperand_ok ht).operandAddresses o]
    exact hf v t

theorem stored_storeTo (f : State → Word) (g : State → Byte) (s : State) :
    Stored [f s] s (stateOf (storeTo f g s)) := .write (g s) (List.mem_singleton.mpr rfl)

theorem stored_storeSp (a : Word) (s : State) : Stored [a, a + 1#16] s (stateOf (storeSp a s)) :=
  .bind (x := memWrite a (lowByte s.sp)) (.write _ (by simp)) fun _ _ _ => .write _ (by simp)

theorem stored_pushByte {as : List Word} {s : State} (h : s.sp - 1#16 ∈ as) (v : Byte) :
    Stored as s (stateOf (pushByte v s)) :=
  .trans (.same rfl : Stored as s (s.setSp (s.sp - 1#16))) (.write v h)

theorem pushByte_sp {v : Byte} {s t : State} (h : pushByte v s = .ok () t) : t.sp = s.sp - 1#16 :=
  congrArg State.sp (memWrite_ok h).1

theorem stored_push16 (v : Word) (s : State) : Stored (pushAddresses s.sp) s (stateOf (push16 v s)) :=
  .bind (stored_pushByte (by simp [pushAddresses]) _) fun _ t ht =>
    stored_pushByte (by simp [pushAddresses, pushByte_sp ht]) _

theorem stored_call (a : Word) (s : State) : Stored (pushAddresses s.sp) s (stateOf (call a s)) :=
  .bind (x := push16 s.pc) (stored_push16 _ s) fun _ _ _ => .same rfl

/-! ## IME and CYCLES -/

/-- A pseudocode that does not read IME and CYCLES and writes no CYCLES; what it writes to IME is the same
whatever stood there. -/
def BlindButIme (body : Exec Nat) : Prop :=
  ∀ s b n, ∃ b', body (s.veil b n) = veilResult b' n (body s) ∧ (stateOf (body s)).cycles = s.cycles ∧
    (b' = (stateOf (body s)).ime ∨ (b' = b ∧ (stateOf (body s)).ime = s.ime))

/-- A blind computation leaves IME and CYCLES as they are. -/
theorem Blind.keeps {α : Type} {x : Exec α} (h : Blind x) (s : State) :
    (stateOf (x s)).ime = s.ime ∧ (stateOf (x s)).cycles = s.cycles := by
  have hself : x s = veilResult s.ime s.cycles (x s) := h s s.ime s.cycles
  rw [hself]
  cases x s <;> exact ⟨rfl, rfl⟩

theorem Blind.blindButIme {body : Exec Nat} (h : Blind body) : BlindButIme body := fun s b n =>
  ⟨b, h s b n, (h.keeps s).2, .inr ⟨rfl, (h.keeps s).1⟩⟩

theorem blindButIme_writeIme (v : Bool) (n : Nat) : BlindButIme (taking n (writeIme v)) := fun _ _ _ =>
  ⟨v, rfl, rfl, .inl rfl⟩

theorem blindButIme_returnEnable (n : Nat) : BlindButIme (taking n returnEnable) := by
  intro s b m
  obtain ⟨hime, hcycles⟩ := Blind.return16.keeps s
  have hveil := Blind.return16 s b m
  simp only [taking, returnEnable, Exec.bind_apply, hveil]
  cases hr : return16 s with
  | ok v t =>
    rw [hr] at hcycles
    exact ⟨true, rfl, hcycles, .inl rfl⟩
  | error why t =>
    rw [hr] at hime hcycles
    exact ⟨b, rfl, hcycles, .inr ⟨rfl, hime⟩⟩

/-! ## The shared pseudocodes -/

/-- What every instruction's pseudocode is: its writes are at the addresses given, and it does not read IME
and CYCLES. -/
structure Pseudocode (as : State → List Word) (body : Exec Nat) : Prop where
  stored : ∀ s, Stored (as s) s (stateOf (body s))
  blind : BlindButIme body

namespace Pseudocode

theorem storing {as : State → List Word} {x : Exec Unit} {n : Nat}
    (hs : ∀ s, Stored (as s) s (stateOf (x s))) (hb : Blind x) : Pseudocode as (Machine.taking n x) where
  stored s := .bind (hs s) fun _ _ _ => .refl _ _
  blind := hb.taking.blindButIme

theorem quiet {body : Exec Nat} (hs : StoresNothing body) (hb : Blind body) :
    Pseudocode (fun _ => []) body where
  stored s := .same (hs s)
  blind := hb.blindButIme

theorem reading {x : Exec Unit} {n : Nat} (hs : StoresNothing x) (hb : Blind x) :
    Pseudocode (fun _ => []) (Machine.taking n x) := quiet hs.taking hb.taking

theorem updating {f : State → State} {n : Nat} (hs : ∀ s, SameStores s (f s))
    (hb : ∀ s b n, f (s.veil b n) = (f s).veil b n) :
    Pseudocode (fun _ => []) (Machine.taking n (Machine.update f)) := reading (keeps_update hs) (.update hb)

variable {n : Nat}

theorem nop : Pseudocode (fun _ => []) (Machine.taking n (Pure.pure ())) := reading (.pure ()) (.pure ())

/-! ### Loads -/

theorem copyReg (dst src : Reg) : Pseudocode (fun _ => []) (Machine.taking n (copyReg dst src)) :=
  updating (fun s => .setReg s dst _) fun s b m => by cases dst <;> cases src <;> rfl

theorem loadImm (r : Reg) (v : Byte) : Pseudocode (fun _ => []) (Machine.taking n (loadImm r v)) :=
  updating (fun s => .setReg s r v) fun s b m => by cases r <;> rfl

theorem loadFrom (r : Reg) {f : State → Word} (hf : ∀ s b m, f (s.veil b m) = f s) :
    Pseudocode (fun _ => []) (Machine.taking n (loadFrom r f)) :=
  reading (.bind (.look f) fun _ => .bind (.memRead _) fun v => keeps_update fun s => .setReg s r v)
    (.bind (.look hf) fun _ => .bind (.memRead _) fun _ => .update fun s b m => by cases r <;> rfl)

theorem storeTo {f : State → Word} {g : State → Byte} (hf : ∀ s b m, f (s.veil b m) = f s)
    (hg : ∀ s b m, g (s.veil b m) = g s) :
    Pseudocode (fun s => [f s]) (Machine.taking n (storeTo f g)) :=
  storing (stored_storeTo f g) (.bind (.look hf) fun _ => .bind (.look hg) fun _ => .memWrite _ _)

theorem loadStep (d : Word) : Pseudocode (fun _ => []) (Machine.taking n (loadStep d)) :=
  reading
    (.bind (.bind (.look _) fun _ => .bind (.memRead _) fun _ => keeps_update fun _ => rfl) fun _ =>
      keeps_update fun _ => rfl)
    (.bind (.bind (.look fun _ _ _ => rfl) fun _ => .bind (.memRead _) fun _ => .update fun _ _ _ => rfl)
      fun _ => .update fun _ _ _ => rfl)

theorem storeStep (d : Word) : Pseudocode (fun s => [s.hl]) (Machine.taking n (storeStep d)) :=
  storing (fun s => .bind (stored_storeTo State.hl State.a s) fun _ _ _ => .same rfl)
    (.bind (.bind (.look fun _ _ _ => rfl) fun _ => .bind (.look fun _ _ _ => rfl) fun _ => .memWrite _ _)
      fun _ => .update fun _ _ _ => rfl)

theorem loadPair (p : Pair) (v : Word) : Pseudocode (fun _ => []) (Machine.taking n (loadPair p v)) :=
  updating (fun s => .setPair s p v) fun s b m => by cases p <;> rfl

theorem storeSp (a : Word) : Pseudocode (fun _ => [a, a + 1#16]) (Machine.taking n (storeSp a)) :=
  storing (stored_storeSp a)
    (.bind (.look fun _ _ _ => rfl) fun _ => .bind (.memWrite _ _) fun _ => .memWrite _ _)

theorem loadSpHl : Pseudocode (fun _ => []) (Machine.taking n loadSpHl) :=
  updating (fun _ => rfl) fun _ _ _ => rfl

theorem pushPair (p : StackPair) :
    Pseudocode (fun s => pushAddresses s.sp) (Machine.taking n (pushPair p)) :=
  storing (fun s => stored_push16 (s.getStackPair p) s)
    (.bind (.look fun s b m => by cases p <;> rfl) fun _ => .push16 _)

theorem popPair (p : StackPair) : Pseudocode (fun _ => []) (Machine.taking n (popPair p)) :=
  reading (.bind .pop16 fun v => keeps_update fun s => .setStackPair s p v)
    (.bind .pop16 fun _ => .update fun s b m => by cases p <;> rfl)

/-! ### Arithmetic and logic -/

theorem aluWith (op : AluOp) (o : Operand) : Pseudocode (fun _ => []) (Machine.taking n (aluWith op o)) :=
  reading (.bind (.readOperand o) fun v => keeps_update fun s => .alu s op v)
    (.bind (.readOperand o) fun _ => .update fun s b m => by cases op <;> rfl)

theorem aluImm (op : AluOp) (v : Byte) : Pseudocode (fun _ => []) (Machine.taking n (aluImm op v)) :=
  updating (fun s => .alu s op v) fun s b m => by cases op <;> rfl

theorem incOperand (o : Operand) : Pseudocode (operandAddresses o) (Machine.taking n (incOperand o)) :=
  storing (stored_readOperand_bind fun _ s => .bind (stored_writeOperand o _ s) fun _ _ _ => .same rfl)
    (.bind (.readOperand o) fun _ => .bind (.writeOperand o _) fun _ => .update fun _ _ _ => rfl)

theorem decOperand (o : Operand) : Pseudocode (operandAddresses o) (Machine.taking n (decOperand o)) :=
  storing (stored_readOperand_bind fun _ s => .bind (stored_writeOperand o _ s) fun _ _ _ => .same rfl)
    (.bind (.readOperand o) fun _ => .bind (.writeOperand o _) fun _ => .update fun _ _ _ => rfl)

theorem decimalAdjust : Pseudocode (fun _ => []) (Machine.taking n decimalAdjust) :=
  updating (fun _ => rfl) fun _ _ _ => rfl

theorem complementA : Pseudocode (fun _ => []) (Machine.taking n complementA) :=
  updating (fun _ => rfl) fun _ _ _ => rfl

theorem setCarry : Pseudocode (fun _ => []) (Machine.taking n setCarry) :=
  updating (fun _ => rfl) fun _ _ _ => rfl

theorem complementCarry : Pseudocode (fun _ => []) (Machine.taking n complementCarry) :=
  updating (fun _ => rfl) fun _ _ _ => rfl

theorem addHl (p : Pair) : Pseudocode (fun _ => []) (Machine.taking n (addHl p)) :=
  updating (fun _ => rfl) fun s b m => by cases p <;> rfl

theorem incPair (p : Pair) : Pseudocode (fun _ => []) (Machine.taking n (incPair p)) :=
  updating (fun s => .setPair s p _) fun s b m => by cases p <;> rfl

theorem decPair (p : Pair) : Pseudocode (fun _ => []) (Machine.taking n (decPair p)) :=
  updating (fun s => .setPair s p _) fun s b m => by cases p <;> rfl

theorem addSp (e : Byte) : Pseudocode (fun _ => []) (Machine.taking n (addSp e)) :=
  updating (fun _ => rfl) fun _ _ _ => rfl

theorem loadHlSp (e : Byte) : Pseudocode (fun _ => []) (Machine.taking n (loadHlSp e)) :=
  updating (fun _ => rfl) fun _ _ _ => rfl

/-! ### Rotates, shifts and bits -/

theorem accRotate (op : RotOp) : Pseudocode (fun _ => []) (Machine.taking n (accRotate op)) :=
  updating (fun _ => rfl) fun _ _ _ => rfl

theorem rotateOperand (op : RotOp) (o : Operand) :
    Pseudocode (operandAddresses o) (Machine.taking n (rotateOperand op o)) :=
  storing (stored_readOperand_bind fun v s =>
      .bind (x := writeOperand o (rotCompute op v (s.flag .carry)).1) (stored_writeOperand o _ s) fun _ _ _ =>
        .same rfl)
    (.bind (.readOperand o) fun _ => .bind (.look fun _ _ _ => rfl) fun _ =>
      .bind (.writeOperand o _) fun _ => .update fun _ _ _ => rfl)

theorem testBit (b : Octal) (o : Operand) : Pseudocode (fun _ => []) (Machine.taking n (testBit b o)) :=
  reading (.bind (.readOperand o) fun _ => keeps_update fun _ => rfl)
    (.bind (.readOperand o) fun _ => .update fun _ _ _ => rfl)

theorem resetBit (b : Octal) (o : Operand) :
    Pseudocode (operandAddresses o) (Machine.taking n (resetBit b o)) :=
  storing (stored_readOperand_bind fun _ s => stored_writeOperand o _ s)
    (.bind (.readOperand o) fun _ => .writeOperand o _)

theorem setBit (b : Octal) (o : Operand) : Pseudocode (operandAddresses o) (Machine.taking n (setBit b o)) :=
  storing (stored_readOperand_bind fun _ s => stored_writeOperand o _ s)
    (.bind (.readOperand o) fun _ => .writeOperand o _)

/-! ### Control transfer and system -/

theorem jump (a : Word) : Pseudocode (fun _ => []) (Machine.taking n (jump a)) :=
  updating (fun _ => rfl) fun _ _ _ => rfl

theorem jumpHl : Pseudocode (fun _ => []) (Machine.taking n jumpHl) :=
  updating (fun _ => rfl) fun _ _ _ => rfl

theorem jumpRel (e : Byte) : Pseudocode (fun _ => []) (Machine.taking n (jumpRel e)) :=
  updating (fun _ => rfl) fun _ _ _ => rfl

theorem call (a : Word) : Pseudocode (fun s => pushAddresses s.sp) (Machine.taking n (call a)) :=
  storing (stored_call a) (Blind.call a)

theorem restart (t : Octal) :
    Pseudocode (fun s => pushAddresses s.sp) (Machine.taking n (restart t)) := call _

theorem return16 : Pseudocode (fun _ => []) (Machine.taking n return16) :=
  reading StoresNothing.return16 Blind.return16

theorem returnEnable : Pseudocode (fun _ => []) (Machine.taking n returnEnable) where
  stored s :=
    .same ((StoresNothing.return16.bind (f := fun _ => Machine.writeIme true) fun _ =>
      keeps_update fun _ => rfl).taking s)
  blind := blindButIme_returnEnable n

theorem haltCore : Pseudocode (fun _ => []) (Machine.taking n haltCore) :=
  updating (fun _ => rfl) fun _ _ _ => rfl

theorem stopCore : Pseudocode (fun _ => []) (Machine.taking n stopCore) :=
  updating (fun _ => rfl) fun _ _ _ => rfl

theorem writeIme (v : Bool) : Pseudocode (fun _ => []) (Machine.taking n (writeIme v)) where
  stored _ := .same rfl
  blind := blindButIme_writeIme v n

theorem illegalOpcode : Pseudocode (fun _ => []) (Machine.taking n illegalOpcode) := by
  refine updating (fun s => ?_) fun s b m => ?_
  · split <;> rfl
  · have hcfg : (s.veil b m).cfg = s.cfg := rfl
    rw [hcfg]
    cases s.cfg.illegalOpcode <;> rfl

variable {m : Nat} (cc : Cond)

theorem branchJump (a : Word) : Pseudocode (fun _ => []) (branch cc n m (Machine.jump a)) :=
  quiet (StoresNothing.branch (keeps_update fun _ => rfl)) (Blind.branch (.update fun _ _ _ => rfl))

theorem branchJumpRel (e : Byte) : Pseudocode (fun _ => []) (branch cc n m (Machine.jumpRel e)) :=
  quiet (StoresNothing.branch (keeps_update fun _ => rfl)) (Blind.branch (.update fun _ _ _ => rfl))

theorem branchReturn : Pseudocode (fun _ => []) (branch cc n m Machine.return16) :=
  quiet StoresNothing.return16.branch Blind.return16.branch

theorem branchCall (a : Word) :
    Pseudocode (fun s => if s.holds cc then pushAddresses s.sp else []) (branch cc n m (Machine.call a)) where
  stored s := by
    cases hcc : s.holds cc with
    | true =>
      rw [branch_of_holds hcc]
      exact (call a).stored s
    | false =>
      rw [branch_of_not_holds hcc]
      exact .refl _ s
  blind := (Blind.call a).branch.blindButIme

end Pseudocode

/-! ## Every instruction -/

/-- The instruction completes one of the shared pseudocodes, whose stores are where `storeAddresses` says. -/
def Performs (i : Instr) : Prop :=
  ∃ body, (∀ s, exec i s = complete i body s) ∧ Pseudocode (storeAddresses i) body

theorem Performs.of {i : Instr} {body : Exec Nat} (hx : ∀ s, exec i s = complete i body s)
    (hp : Pseudocode (storeAddresses i) body) : Performs i := ⟨body, hx, hp⟩

end Sys2Proof.Machine
end

section
/-! PROOFS. What the decoder can give (30_encoding.md R191-R195): every instruction of the machine is what some
first byte starts, so a property of every row of the decoder is one of every instruction. -/

namespace Sys2Proof.Machine

/-- The instruction is one that a first byte of this shape starts, its second byte being the next one. -/
def Starts (i : Instr) : Shape → Prop
  | .done j => j = i
  | .imm8 f => f ((encode i).getD 1 0x00#8) = i
  | .imm16 f => ∃ v, f v = i
  | .extended => decodeExtended ((encode i).getD 1 0x00#8) = i

/-- Every instruction that a first byte of this shape starts has the property. -/
def AllOf (P : Instr → Prop) : Shape → Prop
  | .done i => P i
  | .imm8 f => ∀ n, P (f n)
  | .imm16 f => ∀ v, P (f v)
  | .extended => ∀ cb, P (decodeExtended cb)

theorem AllOf.of_starts {P : Instr → Prop} {sh : Shape} {i : Instr} (h : AllOf P sh) (hi : Starts i sh) :
    P i := by
  cases sh with
  | done j => exact hi ▸ h
  | imm8 f | extended => exact hi ▸ h _
  | imm16 f =>
    obtain ⟨v, rfl⟩ := hi
    exact h v

/-- Every instruction of the machine is started by the first byte of its encoding. -/
theorem starts_firstByte {i : Instr} (h : i.wellFormed = true) :
    Starts i (decodeOp ((encode i).headD 0x00#8)) := by
  cases i
  case prefixCb => cases h
  all_goals dsimp only [encode, List.headD_cons]
  -- Only a word operand has to be found again from the encoding's two bytes.
  all_goals first | exact rfl | exact Exists.intro _ rfl

theorem eq_prefixCb_of_not_wellFormed {i : Instr} (h : i.wellFormed = false) : ∃ cb, i = .prefixCb cb := by
  cases i <;> cases h
  exact ⟨_, rfl⟩

theorem firstByte_of_opcode {i : Instr} {op : Byte} (h : i.opcode = .plain op) :
    i.wellFormed = true ∧ (encode i).headD 0x00#8 = op := by
  constructor
  · by_contra hi
    obtain ⟨cb, rfl⟩ := eq_prefixCb_of_not_wellFormed (Bool.eq_false_iff.mpr hi)
    cases h
  · unfold Instr.opcode at h
    cases he : encode i with
    | nil =>
      rw [he] at h
      cases h
      rfl
    | cons op' rest =>
      simp only [he] at h
      split at h <;> cases h
      rfl

/-- The opcode of an instruction says by the decoder's table which instruction it is. -/
theorem starts_of_opcode {i : Instr} {op : Byte} (h : i.opcode = .plain op) : Starts i (decodeOp op) := by
  obtain ⟨hi, rfl⟩ := firstByte_of_opcode h
  exact starts_firstByte hi

end Sys2Proof.Machine
end

section
/-! PROOFS. Every instruction performs one of the shared pseudocodes: the families of the decoder (30_encoding.md
R182, R194), the decoder's rows, then every instruction. -/

namespace Sys2Proof.Machine
/-! ## The families -/

theorem performs_ldRegReg (dst src : Reg) : Performs (Instr.ldRegReg dst src) := by
  cases dst <;> cases src <;> exact .of (fun _ => rfl) (.copyReg ..)

theorem performs_ldRegD8 (r : Reg) (v : Byte) : Performs (Instr.ldRegD8 r v) := by
  cases r <;> exact .of (fun _ => rfl) (.loadImm ..)

theorem performs_ldRegMemHl (r : Reg) : Performs (Instr.ldRegMemHl r) := by
  cases r <;> exact .of (fun _ => rfl) (.loadFrom _ fun _ _ _ => rfl)

theorem performs_ldMemHlReg (r : Reg) : Performs (Instr.ldMemHlReg r) := by
  cases r <;> exact .of (fun _ => rfl) (.storeTo (fun _ _ _ => rfl) fun _ _ _ => rfl)

/-- The cycles of an instruction on an operand: `n` on a register, `m` on (HL). -/
def cyclesOn (o : Operand) (n m : Nat) : Nat :=
  match o with
  | .reg _ => n
  | .memHl => m

theorem exec_aluOperand (op : AluOp) (o : Operand) (s : State) :
    exec (Instr.aluOperand op o) s =
      complete (Instr.aluOperand op o) (taking (cyclesOn o 4 8) (aluWith op o)) s := by
  rcases o with r | _
  · cases r <;> cases op <;> rfl
  · cases op <;> rfl

theorem storeAddresses_aluOperand (op : AluOp) (o : Operand) :
    storeAddresses (Instr.aluOperand op o) = fun _ => [] := by
  rcases o with r | _
  · cases r <;> cases op <;> rfl
  · cases op <;> rfl

theorem performs_aluOperand (op : AluOp) (o : Operand) : Performs (Instr.aluOperand op o) :=
  .of (exec_aluOperand op o) (storeAddresses_aluOperand op o ▸ .aluWith op o)

theorem performs_aluD8 (op : AluOp) (v : Byte) : Performs (Instr.aluD8 op v) := by
  cases op <;> exact .of (fun _ => rfl) (.aluImm ..)

theorem exec_incOperand (o : Operand) (s : State) :
    exec (Instr.incOperand o) s =
      complete (Instr.incOperand o) (taking (cyclesOn o 4 12) (incOperand o)) s := by
  rcases o with r | _
  · cases r <;> rfl
  · rfl

theorem storeAddresses_incOperand (o : Operand) :
    storeAddresses (Instr.incOperand o) = operandAddresses o := by
  rcases o with r | _
  · cases r <;> rfl
  · rfl

theorem performs_incOperand (o : Operand) : Performs (Instr.incOperand o) :=
  .of (exec_incOperand o) (storeAddresses_incOperand o ▸ .incOperand o)

theorem exec_decOperand (o : Operand) (s : State) :
    exec (Instr.decOperand o) s =
      complete (Instr.decOperand o) (taking (cyclesOn o 4 12) (decOperand o)) s := by
  rcases o with r | _
  · cases r <;> rfl
  · rfl

theorem storeAddresses_decOperand (o : Operand) :
    storeAddresses (Instr.decOperand o) = operandAddresses o := by
  rcases o with r | _
  · cases r <;> rfl
  · rfl

theorem performs_decOperand (o : Operand) : Performs (Instr.decOperand o) :=
  .of (exec_decOperand o) (storeAddresses_decOperand o ▸ .decOperand o)

theorem performs_ldPairD16 (p : Pair) (v : Word) : Performs (Instr.ldPairD16 p v) := by
  cases p <;> exact .of (fun _ => rfl) (.loadPair ..)

theorem performs_addHlPair (p : Pair) : Performs (Instr.addHlPair p) := by
  cases p <;> exact .of (fun _ => rfl) (.addHl _)

theorem performs_incPair (p : Pair) : Performs (Instr.incPair p) := by
  cases p <;> exact .of (fun _ => rfl) (.incPair _)

theorem performs_decPair (p : Pair) : Performs (Instr.decPair p) := by
  cases p <;> exact .of (fun _ => rfl) (.decPair _)

theorem performs_push (p : StackPair) : Performs (Instr.push p) := by
  cases p <;> exact .of (fun _ => rfl) (.pushPair _)

theorem performs_pop (p : StackPair) : Performs (Instr.pop p) := by
  cases p <;> exact .of (fun _ => rfl) (.popPair _)

theorem performs_jpCond (cc : Cond) (a : Word) : Performs (Instr.jpCond cc a) := by
  cases cc <;> exact .of (fun _ => rfl) (.branchJump ..)

theorem performs_jrCond (cc : Cond) (e : Byte) : Performs (Instr.jrCond cc e) := by
  cases cc <;> exact .of (fun _ => rfl) (.branchJumpRel ..)

theorem performs_callCond (cc : Cond) (a : Word) : Performs (Instr.callCond cc a) := by
  cases cc <;> exact .of (fun _ => rfl) (.branchCall ..)

theorem performs_retCond (cc : Cond) : Performs (Instr.retCond cc) := by
  cases cc <;> exact .of (fun _ => rfl) (.branchReturn _)

theorem performs_rst (t : Octal) : Performs (Instr.rst t) := by
  cases t <;> exact .of (fun _ => rfl) (.restart _)

theorem exec_rotOperand (op : RotOp) (o : Operand) (s : State) :
    exec (Instr.rotOperand op o) s =
      complete (Instr.rotOperand op o) (taking (cyclesOn o 8 16) (rotateOperand op o)) s := by
  rcases o with r | _
  · cases r <;> cases op <;> rfl
  · cases op <;> rfl

theorem storeAddresses_rotOperand (op : RotOp) (o : Operand) :
    storeAddresses (Instr.rotOperand op o) = operandAddresses o := by
  rcases o with r | _
  · cases r <;> cases op <;> rfl
  · cases op <;> rfl

theorem performs_rotOperand (op : RotOp) (o : Operand) : Performs (Instr.rotOperand op o) :=
  .of (exec_rotOperand op o) (storeAddresses_rotOperand op o ▸ .rotateOperand op o)

theorem exec_bit (b : Octal) (o : Operand) (s : State) :
    exec (Instr.bit b o) s =
      complete (Instr.bit b o) (taking (cyclesOn o 8 12) (testBit b o)) s := by
  rcases o with r | _
  · cases r <;> cases b <;> rfl
  · cases b <;> rfl

theorem storeAddresses_bit (b : Octal) (o : Operand) :
    storeAddresses (Instr.bit b o) = fun _ => [] := by
  rcases o with r | _
  · cases r <;> cases b <;> rfl
  · cases b <;> rfl

theorem performs_bit (b : Octal) (o : Operand) : Performs (Instr.bit b o) :=
  .of (exec_bit b o) (storeAddresses_bit b o ▸ .testBit b o)

theorem exec_res (b : Octal) (o : Operand) (s : State) :
    exec (Instr.res b o) s =
      complete (Instr.res b o) (taking (cyclesOn o 8 16) (resetBit b o)) s := by
  rcases o with r | _
  · cases r <;> cases b <;> rfl
  · cases b <;> rfl

theorem storeAddresses_res (b : Octal) (o : Operand) :
    storeAddresses (Instr.res b o) = operandAddresses o := by
  rcases o with r | _
  · cases r <;> cases b <;> rfl
  · cases b <;> rfl

theorem performs_res (b : Octal) (o : Operand) : Performs (Instr.res b o) :=
  .of (exec_res b o) (storeAddresses_res b o ▸ .resetBit b o)

theorem exec_set (b : Octal) (o : Operand) (s : State) :
    exec (Instr.set b o) s =
      complete (Instr.set b o) (taking (cyclesOn o 8 16) (setBit b o)) s := by
  rcases o with r | _
  · cases r <;> cases b <;> rfl
  · cases b <;> rfl

theorem storeAddresses_set (b : Octal) (o : Operand) :
    storeAddresses (Instr.set b o) = operandAddresses o := by
  rcases o with r | _
  · cases r <;> cases b <;> rfl
  · cases b <;> rfl

theorem performs_set (b : Octal) (o : Operand) : Performs (Instr.set b o) :=
  .of (exec_set b o) (storeAddresses_set b o ▸ .setBit b o)

/-! ## The decoder's rows -/

theorem performs_decodeExtended (cb : Byte) : Performs (decodeExtended cb) := by
  unfold decodeExtended
  split
  · exact performs_rotOperand ..
  · exact performs_bit ..
  · exact performs_res ..
  · exact performs_set ..

theorem performs_decodeX1 (y z : Octal) : AllOf Performs (decodeX1 y z) := by
  unfold decodeX1
  split
  · exact performs_ldRegReg ..
  · exact performs_ldRegMemHl _
  · exact performs_ldMemHlReg _
  · exact Performs.of (fun _ => rfl) .haltCore

theorem performs_decodeX0 (y z : Octal) : AllOf Performs (decodeX0 y z) := by
  cases z with
  | o0 =>
    cases y with
    | o0 => exact Performs.of (fun _ => rfl) .nop
    | o1 => exact fun a => Performs.of (fun _ => rfl) (.storeSp a)
    | o2 => exact fun _ => Performs.of (fun _ => rfl) .stopCore
    | o3 => exact fun e => Performs.of (fun _ => rfl) (.jumpRel e)
    | o4 | o5 | o6 | o7 => exact performs_jrCond _
  | o1 =>
    cases y with
    | o0 | o2 | o4 | o6 => exact performs_ldPairD16 _
    | o1 | o3 | o5 | o7 => exact performs_addHlPair _
  | o2 =>
    cases y with
    | o0 | o2 => exact Performs.of (fun _ => rfl) (.storeTo (fun _ _ _ => rfl) fun _ _ _ => rfl)
    | o1 | o3 => exact Performs.of (fun _ => rfl) (.loadFrom _ fun _ _ _ => rfl)
    | o4 | o6 => exact Performs.of (fun _ => rfl) (.storeStep _)
    | o5 | o7 => exact Performs.of (fun _ => rfl) (.loadStep _)
  | o3 =>
    cases y with
    | o0 | o2 | o4 | o6 => exact performs_incPair _
    | o1 | o3 | o5 | o7 => exact performs_decPair _
  | o4 => exact performs_incOperand _
  | o5 => exact performs_decOperand _
  | o6 =>
    cases y with
    | o6 => exact fun v => Performs.of (fun _ => rfl) (.storeTo (fun _ _ _ => rfl) fun _ _ _ => rfl)
    | o0 | o1 | o2 | o3 | o4 | o5 | o7 => exact performs_ldRegD8 _
  | o7 =>
    cases y with
    | o0 | o1 | o2 | o3 => exact Performs.of (fun _ => rfl) (.accRotate _)
    | o4 => exact Performs.of (fun _ => rfl) .decimalAdjust
    | o5 => exact Performs.of (fun _ => rfl) .complementA
    | o6 => exact Performs.of (fun _ => rfl) .setCarry
    | o7 => exact Performs.of (fun _ => rfl) .complementCarry

theorem performs_decodeX3 (y z : Octal) : AllOf Performs (decodeX3 y z) := by
  cases z with
  | o0 =>
    cases y with
    | o0 | o1 | o2 | o3 => exact performs_retCond _
    | o4 => exact fun v => Performs.of (fun _ => rfl) (.storeTo (fun _ _ _ => rfl) fun _ _ _ => rfl)
    | o5 => exact fun e => Performs.of (fun _ => rfl) (.addSp e)
    | o6 => exact fun v => Performs.of (fun _ => rfl) (.loadFrom _ fun _ _ _ => rfl)
    | o7 => exact fun e => Performs.of (fun _ => rfl) (.loadHlSp e)
  | o1 =>
    cases y with
    | o0 | o2 | o4 | o6 => exact performs_pop _
    | o1 => exact Performs.of (fun _ => rfl) .return16
    | o3 => exact Performs.of (fun _ => rfl) .returnEnable
    | o5 => exact Performs.of (fun _ => rfl) .jumpHl
    | o7 => exact Performs.of (fun _ => rfl) .loadSpHl
  | o2 =>
    cases y with
    | o0 | o1 | o2 | o3 => exact performs_jpCond _
    | o4 => exact Performs.of (fun _ => rfl) (.storeTo (fun _ _ _ => rfl) fun _ _ _ => rfl)
    | o5 => exact fun a => Performs.of (fun _ => rfl) (.storeTo (fun _ _ _ => rfl) fun _ _ _ => rfl)
    | o6 => exact Performs.of (fun _ => rfl) (.loadFrom _ fun _ _ _ => rfl)
    | o7 => exact fun a => Performs.of (fun _ => rfl) (.loadFrom _ fun _ _ _ => rfl)
  | o3 =>
    cases y with
    | o0 => exact fun a => Performs.of (fun _ => rfl) (.jump a)
    | o1 => exact performs_decodeExtended
    | o2 | o3 | o4 | o5 => exact Performs.of (fun _ => rfl) .illegalOpcode
    | o6 | o7 => exact Performs.of (fun _ => rfl) (.writeIme _)
  | o4 =>
    cases y with
    | o0 | o1 | o2 | o3 => exact performs_callCond _
    | o4 | o5 | o6 | o7 => exact Performs.of (fun _ => rfl) .illegalOpcode
  | o5 =>
    cases y with
    | o0 | o2 | o4 | o6 => exact performs_push _
    | o1 => exact fun a => Performs.of (fun _ => rfl) (.call a)
    | o3 | o5 | o7 => exact Performs.of (fun _ => rfl) .illegalOpcode
  | o6 => exact performs_aluD8 _
  | o7 => exact performs_rst y

theorem performs_decodeOp (op : Byte) : AllOf Performs (decodeOp op) := by
  unfold decodeOp
  split
  · exact performs_decodeX0 ..
  · exact performs_decodeX1 ..
  · exact performs_aluOperand ..
  · exact performs_decodeX3 ..

/-! ## Every instruction -/

theorem performs_prefixCb (cb : Byte) : Performs (.prefixCb cb) := by
  have hstores : storeAddresses (.prefixCb cb) =
      fun s => if fieldZ cb = .o6 ∧ (fieldX cb).toNat ≠ 1 then [s.hl] else [] := rfl
  have hoperand : (fieldX cb).toNat ≠ 1 →
      storeAddresses (.prefixCb cb) = operandAddresses (Operand.ofCode (fieldZ cb)) := fun hx => by
    rw [hstores]
    cases fieldZ cb <;> simp [hx] <;> rfl
  refine .of (body := extendedBody cb) (fun _ => rfl) ?_
  unfold extendedBody
  split
  · rename_i hx
    rw [hoperand (by omega)]
    exact .rotateOperand ..
  · rename_i hx
    rw [hstores]
    simpa [hx] using Pseudocode.testBit ..
  · rename_i hx
    rw [hoperand (by omega)]
    exact .resetBit ..
  · rename_i hx _
    rw [hoperand hx]
    exact .setBit ..

theorem performs (i : Instr) : Performs i := by
  cases hi : i.wellFormed with
  | true => exact (performs_decodeOp _).of_starts (starts_firstByte hi)
  | false =>
    obtain ⟨cb, rfl⟩ := eq_prefixCb_of_not_wellFormed hi
    exact performs_prefixCb cb

/-- Every instruction reaches its stores by byte writes where `storeAddresses` says, and by nothing else. -/
theorem exec_stored {i : Instr} {s t : State} (h : exec i s = .next t) : Stored (storeAddresses i s) s t := by
  obtain ⟨body, hexec, hbody⟩ := performs i
  have hstored := hbody.stored s
  rw [hexec] at h
  obtain ⟨k, u, hu, rfl⟩ | ⟨why, u, hu, rfl⟩ := complete_next h
  · rw [hu] at hstored
    exact hstored.trans (.same rfl)
  · rw [hu] at hstored
    exact hstored.trans (.same (.endRun u why _ _))

end Sys2Proof.Machine
end

section
/-! PROOFS. No step reads IME or CYCLES (10_state.md R40, R44): O29. -/

namespace Sys2Proof.Machine

/-! ## The cases of a step -/

section Step

variable {s s1 s2 : State} {op : Byte} {i : Instr} {why : Stop}

theorem step_of_not_running (h : s.isRunning = false) : step s = .next s := by
  simp only [step, h, Bool.false_eq_true, if_false]

theorem step_of_fetch_error (h : s.isRunning = true) (h1 : fetch8 s = .error why s1) :
    step s = .next (s1.endRun why s.pc none) := by
  simp only [step, h, if_true, h1]

theorem step_of_fetchRest_error (h : s.isRunning = true) (h1 : fetch8 s = .ok op s1)
    (h2 : fetchRest op s1 = .error why s2) : step s = .next (s2.endRun why s.pc (some (.plain op))) := by
  simp only [step, h, if_true, h1, h2]

theorem step_of_fetched (h : s.isRunning = true) (h1 : fetch8 s = .ok op s1)
    (h2 : fetchRest op s1 = .ok i s2) : step s = exec i s2 := by
  simp only [step, h, if_true, h1, h2]

end Step

/-! ## Two runs -/

theorem State.endRun_veil (s : State) (b : Bool) (n : Nat) (why : Stop) (pc : Word) (op : Option Opcode) :
    (s.veil b n).endRun why pc op = (s.endRun why pc op).veil b n := by cases why <;> rfl

/-- What the run from `s` with IME `b` and CYCLES `n` answers when the run from `s` answers `t`: a state that
differs from `t` in IME and CYCLES only, with the same cycles added and the same write to IME, if any. -/
def SameButImeCycles (s : State) (b : Bool) (n : Nat) (t : State)
    (o : Host.Outcome State Fault Refusal) : Prop :=
  ∃ b' n', o = .next (t.veil b' n') ∧ n' + s.cycles = t.cycles + n ∧
    (b' = t.ime ∨ (b' = b ∧ t.ime = s.ime))

theorem SameButImeCycles.endRun {s u : State} {b b' : Bool} (n : Nat) (hcycles : u.cycles = s.cycles)
    (hime : b' = u.ime ∨ (b' = b ∧ u.ime = s.ime)) (why : Stop) (pc : Word) (op : Option Opcode) :
    SameButImeCycles s b n (u.endRun why pc op) (.next ((u.veil b' n).endRun why pc op)) := by
  refine ⟨b', n, congrArg _ (State.endRun_veil ..), ?_, ?_⟩
  · rw [State.endRun_cycles, hcycles, Nat.add_comm]
  · rw [State.endRun_ime]
    exact hime

theorem exec_veil {i : Instr} {s t : State} (b : Bool) (n : Nat) (h : exec i s = .next t) :
    SameButImeCycles s b n t (exec i (s.veil b n)) := by
  obtain ⟨body, hexec, hbody⟩ := performs i
  obtain ⟨b', hveil, hcycles, hime⟩ := hbody.blind s b n
  rw [hexec] at h ⊢
  obtain ⟨k, u, hu, rfl⟩ | ⟨why, u, hu, rfl⟩ := complete_next h
  · rw [hu] at hveil hcycles hime
    refine ⟨b', n + k, complete_of_ok hveil, ?_, hime⟩
    change u.cycles = s.cycles at hcycles
    show n + k + s.cycles = u.cycles + k + n
    omega
  · rw [hu] at hveil hcycles hime
    rw [complete_of_error hveil]
    exact .endRun n hcycles hime why _ _

theorem step_veil {s t : State} (b : Bool) (n : Nat) (h : step s = .next t) :
    SameButImeCycles s b n t (step (s.veil b n)) := by
  cases hr : s.isRunning with
  | false =>
    rw [step_of_not_running hr] at h
    cases h
    exact ⟨b, n, step_of_not_running hr, Nat.add_comm _ _, .inr ⟨rfl, rfl⟩⟩
  | true =>
    have hrveil : (s.veil b n).isRunning = true := hr
    have hveil1 := Blind.fetch8 s b n
    obtain ⟨hime1, hcycles1⟩ := Blind.fetch8.keeps s
    cases h1 : fetch8 s with
    | error why s1 =>
      rw [h1] at hveil1 hime1 hcycles1
      rw [step_of_fetch_error hr h1] at h
      cases h
      rw [step_of_fetch_error hrveil hveil1]
      exact .endRun n hcycles1 (.inr ⟨rfl, hime1⟩) why _ _
    | ok op s1 =>
      rw [h1] at hveil1 hime1 hcycles1
      have hveil2 := Blind.fetchRest op s1 b n
      obtain ⟨hime2, hcycles2⟩ := (Blind.fetchRest op).keeps s1
      have hime := hime2.trans hime1
      have hcycles := hcycles2.trans hcycles1
      cases h2 : fetchRest op s1 with
      | error why s2 =>
        rw [h2] at hveil2 hime hcycles
        rw [step_of_fetchRest_error hr h1 h2] at h
        cases h
        rw [step_of_fetchRest_error hrveil hveil1 hveil2]
        exact .endRun n hcycles (.inr ⟨rfl, hime⟩) why _ _
      | ok i s2 =>
        rw [h2] at hveil2 hime hcycles
        rw [step_of_fetched hr h1 h2] at h
        rw [step_of_fetched hrveil hveil1 hveil2]
        obtain ⟨b', n', hexec, hadded, hwritten⟩ := exec_veil b n h
        exact ⟨b', n', hexec, hcycles ▸ hadded, hwritten.imp_right fun hw => ⟨hw.1, hw.2.trans hime⟩⟩

/-- Settles O29: every instruction's pseudocode runs the same whatever IME and CYCLES are, and so does the
fetch. -/
theorem imeAndCyclesAreNotRead : Obligations.ImeAndCyclesAreNotRead := by
  unfold Obligations.ImeAndCyclesAreNotRead
  intro s t b n h
  obtain ⟨b', n', hstep, hcycles, hime⟩ := step_veil b n h
  exact ⟨t.veil b' n', hstep, rfl, hcycles, hime⟩

end Sys2Proof.Machine
end

section
/-! PROOFS. What may change RUN, MARK and the bank registers (10_state.md R41, R50, R56): O34. -/

namespace Sys2Proof.Machine

/-! ## RUN and MARK -/

theorem halt_or_stop_of_changes_run {i : Instr} (h : Changes i .run = true) :
    i = .halt ∨ ∃ n, i = .stop n := by
  obtain h | h := of_decide_eq_true h
  · exact .inl (Eq.symm (starts_of_opcode h))
  · exact .inr ⟨_, Eq.symm (starts_of_opcode h)⟩

/-- The instructions of the unassigned bytes (30_encoding.md R195). -/
def illegalInstrs : List Instr :=
  [.illegalD3, .illegalDB, .illegalDD, .illegalE3, .illegalE4, .illegalEB, .illegalEC, .illegalED, .illegalF4,
    .illegalFC, .illegalFD]

theorem illegal_of_changes_mark {i : Instr} (h : Changes i .mark = true) : i ∈ illegalInstrs := by
  obtain ⟨op, hop, hi⟩ := List.any_eq_true.mp h
  have hstarts := starts_of_opcode (of_decide_eq_true hi)
  simp only [illegalBytes, List.mem_cons, List.not_mem_nil, or_false] at hop
  rcases hop with rfl | rfl | rfl | rfl | rfl | rfl | rfl | rfl | rfl | rfl | rfl <;>
    (obtain rfl := hstarts; decide)

theorem exec_illegal {i : Instr} (h : i ∈ illegalInstrs) (s : State) :
    exec i s = complete i (taking 4 illegalOpcode) s := by
  simp only [illegalInstrs, List.mem_cons, List.not_mem_nil, or_false] at h
  rcases h with rfl | rfl | rfl | rfl | rfl | rfl | rfl | rfl | rfl | rfl | rfl <;> rfl

theorem illegalOpcode_of_nop {s : State} (h : s.cfg.illegalOpcode = .nop) : illegalOpcode s = .ok () s := by
  simp only [illegalOpcode, update_apply, h]

theorem illegalOpcode_of_lock {s : State} (h : s.cfg.illegalOpcode = .lock) :
    illegalOpcode s = .ok () { s with mark := .locked } := by
  simp only [illegalOpcode, update_apply, h]

theorem exec_illegal_mark {i : Instr} (hi : i ∈ illegalInstrs) {s t : State} (h : exec i s = .next t)
    (hmark : t.mark ≠ s.mark) : t.mark = .locked ∧ s.cfg.illegalOpcode = .lock := by
  rw [exec_illegal hi] at h
  cases hcfg : s.cfg.illegalOpcode with
  | nop =>
    rw [complete_of_ok (taking_of_ok (illegalOpcode_of_nop hcfg))] at h
    cases h
    exact absurd rfl hmark
  | lock =>
    rw [complete_of_ok (taking_of_ok (illegalOpcode_of_lock hcfg))] at h
    cases h
    exact ⟨rfl, rfl⟩

theorem exec_run_changed {i : Instr} {s t : State} (h : exec i s = .next t) (hrun : t.run ≠ s.run) :
    (i = .halt ∧ t.run = .halted) ∨ ∃ n, i = .stop n ∧ t.run = .stopped := by
  cases hc : Changes i .run with
  | false => exact absurd (exec_unwritten (q := .run) hc h) hrun
  | true =>
    obtain rfl | ⟨n, rfl⟩ := halt_or_stop_of_changes_run hc <;> cases h
    · exact .inl ⟨rfl, rfl⟩
    · exact .inr ⟨n, rfl, rfl⟩

theorem exec_mark_changed {i : Instr} {s t : State} (h : exec i s = .next t) (hmark : t.mark ≠ s.mark) :
    t.mark = .refused ∨ (t.mark = .locked ∧ s.cfg.illegalOpcode = .lock ∧ i ∈ illegalInstrs) := by
  cases hc : Changes i .mark with
  | false => exact .inl ((exec_unwritten (q := .mark) hc h).resolve_left hmark)
  | true =>
    have hi := illegal_of_changes_mark hc
    obtain ⟨hlocked, hlock⟩ := exec_illegal_mark hi h hmark
    exact .inr ⟨hlocked, hlock, hi⟩

/-! ## The bank registers -/

theorem cramWrite_mapper (en : Bool) (bank : Nat) (a : Word) (v : Byte) (s : State) :
    (stateOf (cramWrite en bank a v s)).mapper = s.mapper := by
  simp only [cramWrite]
  split
  · split <;> rfl
  · rfl

theorem cram2Write_mapper (en : Bool) (a : Word) (v : Byte) (s : State) :
    (stateOf (cram2Write en a v s)).mapper = s.mapper := by
  simp only [cram2Write]
  split <;> rfl

theorem cartWrite_mapper {a : Word} (ha : 0x7FFF < a.toNat) (v : Byte) (s : State) :
    (stateOf (cartWrite a v s)).mapper = s.mapper := by
  simp only [cartWrite, Nat.not_le.mpr ha, if_false]
  split
  · rfl
  · exact cramWrite_mapper ..
  · exact cram2Write_mapper ..
  · exact cramWrite_mapper ..
  · exact cramWrite_mapper ..
  · rfl
  · rfl
  · rfl

theorem memWrite_mapper {a : Word} (ha : 0x7FFF < a.toNat) (v : Byte) (s : State) :
    (stateOf (memWrite a v s)).mapper = s.mapper := by
  simp only [memWrite]
  split
  · exact cartWrite_mapper ha v s
  · rfl
  · exact cartWrite_mapper ha v s
  · rfl
  · rfl
  · rfl
  · rfl
  · split <;> rfl
  · rfl

theorem SameStores.mapper {s t : State} (h : SameStores s t) : t.mapper = s.mapper := by rw [h]

theorem Stored.mapper {as : List Word} {s t : State} (h : Stored as s t) :
    (∀ a ∈ as, 0x7FFF < a.toNat) → t.mapper = s.mapper := by
  intro has
  induction h with
  | same h => exact h.mapper
  | write v ha => exact memWrite_mapper (has _ ha) v _
  | trans _ _ h1 h2 => exact h2.trans h1

theorem exec_mapper_changed {i : Instr} {s t : State} (h : exec i s = .next t)
    (hmapper : t.mapper ≠ s.mapper) : ∃ a ∈ storeAddresses i s, a.toNat ≤ 0x7FFF := by
  by_contra hnone
  push Not at hnone
  exact hmapper ((exec_stored h).mapper hnone)

/-- Settles O34: RUN by the frame of RUN, MARK by the frame of MARK, the bank registers by where the instruction
stores. -/
theorem controlStateFrame : Obligations.ControlStateFrame := by
  unfold Obligations.ControlStateFrame
  exact fun _ _ _ h => ⟨exec_run_changed h, exec_mark_changed h, exec_mapper_changed h⟩

end Sys2Proof.Machine
end

section
/-! PROOFS. One equation per window of the address space (20_memory.md R81-R105). -/

namespace Sys2Proof.Machine

variable {a : Word} {s : State}

theorem memRead_bootImage (ha : a.toNat ≤ 0x00FF) (hb : s.bootOff = false) :
    memRead a s = .ok (s.boot.read a.toNat) s := by
  have hr : regionOf a = .cartRom := (regionOf_cartRom a).mpr (by omega)
  simp only [memRead, hr, ha, hb, and_self, if_true]

theorem memRead_cartRom (ha : a.toNat ≤ 0x7FFF) (hb : 0x0100 ≤ a.toNat ∨ s.bootOff = true) :
    memRead a s = cartRead a s := by
  have hr : regionOf a = .cartRom := (regionOf_cartRom a).mpr ha
  have hboot : ¬ (a.toNat ≤ 0x00FF ∧ s.bootOff = false) := by
    rintro ⟨hlow, hoff⟩
    obtain h | h := hb
    · omega
    · rw [hoff] at h; cases h
  simp only [memRead, hr, hboot, if_false]

theorem memRead_vram (h : regionOf a = .vram) (s : State) :
    memRead a s = .ok (s.vram.read (a.toNat - 0x8000)) s := by simp only [memRead, h]

theorem memRead_cartRam (h : regionOf a = .cartRam) (s : State) : memRead a s = cartRead a s := by
  simp only [memRead, h]

theorem memRead_wram (h : regionOf a = .wram) (s : State) :
    memRead a s = .ok (s.wram.read (a.toNat - 0xC000)) s := by simp only [memRead, h]

theorem memRead_echo (h : regionOf a = .echo) (s : State) :
    memRead a s = .ok (s.wram.read (a.toNat - 0xE000)) s := by simp only [memRead, h]

theorem memRead_oam (h : regionOf a = .oam) (s : State) :
    memRead a s = .ok (s.oam.read (a.toNat - 0xFE00)) s := by simp only [memRead, h]

theorem memRead_unmapped (h : regionOf a = .unmapped) (s : State) :
    memRead a s = .error (.raised .invalidAddress a none) s := by simp only [memRead, h, raise_apply]

theorem memRead_bootStatus (h : regionOf a = .bootStatus) (s : State) :
    memRead a s = .ok (0xFE#8 ||| (if s.bootOff then 0x01#8 else 0x00#8)) s := by simp only [memRead, h]

variable (v : Byte)

theorem memWrite_cartRom (h : regionOf a = .cartRom) (s : State) : memWrite a v s = cartWrite a v s := by
  simp only [memWrite, h]

theorem memWrite_vram (h : regionOf a = .vram) (s : State) :
    memWrite a v s = .ok () { s with vram := s.vram.write (a.toNat - 0x8000) v } := by simp only [memWrite, h]

theorem memWrite_cartRam (h : regionOf a = .cartRam) (s : State) : memWrite a v s = cartWrite a v s := by
  simp only [memWrite, h]

theorem memWrite_wram (h : regionOf a = .wram) (s : State) :
    memWrite a v s = .ok () { s with wram := s.wram.write (a.toNat - 0xC000) v } := by simp only [memWrite, h]

theorem memWrite_echo (h : regionOf a = .echo) (s : State) :
    memWrite a v s = .ok () { s with wram := s.wram.write (a.toNat - 0xE000) v } := by simp only [memWrite, h]

theorem memWrite_oam (h : regionOf a = .oam) (s : State) :
    memWrite a v s = .ok () { s with oam := s.oam.write (a.toNat - 0xFE00) v } := by simp only [memWrite, h]

theorem memWrite_unmapped (h : regionOf a = .unmapped) (s : State) :
    memWrite a v s = .error (.raised .invalidAddress a none) s := by simp only [memWrite, h, raise_apply]

theorem memWrite_bootStatus (h : regionOf a = .bootStatus) (s : State) :
    memWrite a v s = .ok () (if v ≠ 0x00#8 then { s with bootOff := true } else s) := by
  simp only [memWrite, h]

end Sys2Proof.Machine
end

section
/-! PROOFS. The multiplexer in the rules' order of tests, what a read leaves, and the forwarded window
(20_memory.md R83, R87, R90, R91, R104): O11, O12 and O21. -/

namespace Sys2Proof.Machine

theorem memRead_eq_ite (a : Word) (s : State) :
    memRead a s =
      if a.toNat ≤ 0x00FF ∧ s.bootOff = false then .ok (s.boot.read a.toNat) s
      else if a.toNat ≤ 0x7FFF then cartRead a s
      else if a.toNat ≤ 0x9FFF then .ok (s.vram.read (a.toNat - 0x8000)) s
      else if a.toNat ≤ 0xBFFF then cartRead a s
      else if a.toNat ≤ 0xDFFF then .ok (s.wram.read (a.toNat - 0xC000)) s
      else if a.toNat ≤ 0xFDFF then .ok (s.wram.read (a.toNat - 0xE000)) s
      else if a.toNat ≤ 0xFE9F then .ok (s.oam.read (a.toNat - 0xFE00)) s
      else if a.toNat ≤ 0xFEFF then .error (.raised .invalidAddress a none) s
      else if a.toNat = 0xFF50 then .ok (if s.bootOff then 0xFF#8 else 0xFE#8) s
      else ioRead a s := by
  by_cases hboot : a.toNat ≤ 0x00FF ∧ s.bootOff = false
  · rw [if_pos hboot, memRead_bootImage hboot.1 hboot.2]
  rw [if_neg hboot]
  by_cases hrom : a.toNat ≤ 0x7FFF
  · have hcart : 0x0100 ≤ a.toNat ∨ s.bootOff = true := by
      rw [not_and_or, Bool.not_eq_false] at hboot
      exact hboot.imp_left (by omega)
    rw [if_pos hrom, memRead_cartRom hrom hcart]
  rw [if_neg hrom]
  by_cases hvram : a.toNat ≤ 0x9FFF
  · rw [if_pos hvram, memRead_vram ((regionOf_vram a).mpr (by omega))]
  rw [if_neg hvram]
  by_cases hcram : a.toNat ≤ 0xBFFF
  · rw [if_pos hcram, memRead_cartRam ((regionOf_cartRam a).mpr (by omega))]
  rw [if_neg hcram]
  by_cases hwram : a.toNat ≤ 0xDFFF
  · rw [if_pos hwram, memRead_wram ((regionOf_wram a).mpr (by omega))]
  rw [if_neg hwram]
  by_cases hecho : a.toNat ≤ 0xFDFF
  · rw [if_pos hecho, memRead_echo ((regionOf_echo a).mpr (by omega))]
  rw [if_neg hecho]
  by_cases hoam : a.toNat ≤ 0xFE9F
  · rw [if_pos hoam, memRead_oam ((regionOf_oam a).mpr (by omega))]
  rw [if_neg hoam]
  by_cases hunmapped : a.toNat ≤ 0xFEFF
  · rw [if_pos hunmapped, memRead_unmapped ((regionOf_unmapped a).mpr (by omega))]
  rw [if_neg hunmapped]
  by_cases hstatus : a.toNat = 0xFF50
  · rw [if_pos hstatus, memRead_bootStatus ((regionOf_bootStatus a).mpr hstatus)]
    cases s.bootOff <;> rfl
  rw [if_neg hstatus, memRead_forwarded ((regionOf_forwarded a).mpr (by omega))]

theorem memWrite_eq_ite (a : Word) (v : Byte) (s : State) :
    memWrite a v s =
      if a.toNat ≤ 0x7FFF then cartWrite a v s
      else if a.toNat ≤ 0x9FFF then .ok () { s with vram := s.vram.write (a.toNat - 0x8000) v }
      else if a.toNat ≤ 0xBFFF then cartWrite a v s
      else if a.toNat ≤ 0xDFFF then .ok () { s with wram := s.wram.write (a.toNat - 0xC000) v }
      else if a.toNat ≤ 0xFDFF then .ok () { s with wram := s.wram.write (a.toNat - 0xE000) v }
      else if a.toNat ≤ 0xFE9F then .ok () { s with oam := s.oam.write (a.toNat - 0xFE00) v }
      else if a.toNat ≤ 0xFEFF then .error (.raised .invalidAddress a none) s
      else if a.toNat = 0xFF50 then .ok () (if v = 0x00#8 then s else { s with bootOff := true })
      else ioWrite a v s := by
  by_cases hrom : a.toNat ≤ 0x7FFF
  · rw [if_pos hrom, memWrite_cartRom v ((regionOf_cartRom a).mpr hrom)]
  rw [if_neg hrom]
  by_cases hvram : a.toNat ≤ 0x9FFF
  · rw [if_pos hvram, memWrite_vram v ((regionOf_vram a).mpr (by omega))]
  rw [if_neg hvram]
  by_cases hcram : a.toNat ≤ 0xBFFF
  · rw [if_pos hcram, memWrite_cartRam v ((regionOf_cartRam a).mpr (by omega))]
  rw [if_neg hcram]
  by_cases hwram : a.toNat ≤ 0xDFFF
  · rw [if_pos hwram, memWrite_wram v ((regionOf_wram a).mpr (by omega))]
  rw [if_neg hwram]
  by_cases hecho : a.toNat ≤ 0xFDFF
  · rw [if_pos hecho, memWrite_echo v ((regionOf_echo a).mpr (by omega))]
  rw [if_neg hecho]
  by_cases hoam : a.toNat ≤ 0xFE9F
  · rw [if_pos hoam, memWrite_oam v ((regionOf_oam a).mpr (by omega))]
  rw [if_neg hoam]
  by_cases hunmapped : a.toNat ≤ 0xFEFF
  · rw [if_pos hunmapped, memWrite_unmapped v ((regionOf_unmapped a).mpr (by omega))]
  rw [if_neg hunmapped]
  by_cases hstatus : a.toNat = 0xFF50
  · rw [if_pos hstatus, memWrite_bootStatus v ((regionOf_bootStatus a).mpr hstatus)]
    by_cases hv : v = 0x00#8 <;> simp [hv]
  rw [if_neg hstatus, memWrite_forwarded ((regionOf_forwarded a).mpr (by omega))]

/-- Settles O11: each test of the rules picks one window. -/
theorem multiplexerDispatch : Obligations.MultiplexerDispatch := by
  unfold Obligations.MultiplexerDispatch
  exact fun a v s => ⟨memRead_eq_ite a s, memWrite_eq_ite a v s⟩

theorem memRead_ok_of_not_forwarded {a : Word} {v : Byte} {s s' : State} (hr : regionOf a ≠ .forwarded)
    (h : memRead a s = .ok v s') : s' = s := by
  have hstate := memRead_state hr s
  rwa [h] at hstate

/-- Settles O12: a read keeps all but the two fields of IO_PORT, and those too outside the forwarded window. -/
theorem readsChangeNothing : Obligations.ReadsChangeNothing := by
  unfold Obligations.ReadsChangeNothing
  refine fun a s s' => ⟨fun v h => ⟨memRead_ok h, fun hr => ?_⟩, fun why h => memRead_error h⟩
  obtain rfl := memRead_ok_of_not_forwarded hr h
  exact ⟨rfl, h⟩

theorem ioRead_of_answer {s : State} {v : Byte} {rest : List Byte} (h : s.ioAnswers = v :: rest) (a : Word) :
    ioRead a s = .ok v { s with ioAnswers := rest, ioLog := .read a v :: s.ioLog } := by
  simp only [ioRead, h]

theorem ioRead_of_no_answer {s : State} (h : s.ioAnswers = []) (a : Word) :
    ioRead a s = .ok (Config.ioAnswer s.ioLog.length)
      { s with ioLog := .read a (Config.ioAnswer s.ioLog.length) :: s.ioLog } := by
  simp only [ioRead, h]

/-- All that a forwarded read can do: one event, whatever the answer. -/
theorem ioRead_ok (a : Word) (s : State) :
    ∃ v, ioRead a s = .ok v { s with ioAnswers := s.ioAnswers.tail, ioLog := .read a v :: s.ioLog } := by
  cases h : s.ioAnswers with
  | nil => exact ⟨Config.ioAnswer s.ioLog.length, by rw [ioRead_of_no_answer h, List.tail_nil, ← h]⟩
  | cons v rest => exact ⟨v, ioRead_of_answer h a⟩

/-- Settles O21, by what the forwarded accesses do with the two fields of IO_PORT. -/
theorem forwardedAccesses : Obligations.ForwardedAccesses := by
  unfold Obligations.ForwardedAccesses
  intro a s hlow hne
  have hr : regionOf a = .forwarded := (regionOf_forwarded a).mpr ⟨hlow, hne⟩
  rw [memRead_forwarded hr]
  exact ⟨fun v rest h => ioRead_of_answer h a, ioRead_ok a s, fun v => memWrite_forwarded hr v s⟩

end Sys2Proof.Machine
end

section
/-! PROOFS. The cartridge controller: the ROM it shows, the CRAM behind the external-RAM region, and the
ROM-only and refused variants (20_memory.md R113, R114, R130-R132, R140): O15, O17 and O18. -/

namespace Sys2Proof.Machine

variable {a : Word} {s : State}

/-! ## What a read shows -/

theorem romRead_eq (a : Word) (off : Nat) (s : State) :
    romRead a off s =
      if off < s.romSize then .ok (s.rom.read off) s else .error (.raised .invalidAddress a none) s := rfl

theorem romOffset_one (ha : a.toNat ≤ 0x7FFF) : romOffset 1 a = a.toNat := by
  unfold romOffset
  split <;> omega

/-- In every variant and mode the ROM region shows the image, with one bank in its upper half. -/
theorem cartRead_rom (ha : a.toNat ≤ 0x7FFF) (s : State) :
    cartRead a s = romRead a (romOffset s.shownRomBank a) s := by
  unfold cartRead State.shownRomBank unspecifiedRead
  split <;> simp only [*, if_true, romOffset_one]

theorem memRead_rom (ha : a.toNat ≤ 0x7FFF) (hb : 0x0100 ≤ a.toNat ∨ s.bootOff = true) :
    memRead a s =
      if romOffset s.shownRomBank a < s.romSize then .ok (s.rom.read (romOffset s.shownRomBank a)) s
      else .error (.raised .invalidAddress a none) s := by
  rw [memRead_cartRom ha hb, cartRead_rom ha, romRead_eq]

/-! ## External RAM -/

/-- The enable and the bank of the CRAM behind the external-RAM region, or none in a variant or a mode without
one (20_memory.md R114, R142, R143). -/
def State.cramBank (s : State) : Option (Bool × Nat) :=
  match s.mapper, s.cfg.otherMbc with
  | .mbc1 m, _ => some (m.ramEn, m.ramBank.toNat)
  | .mbc3 m, .reference => some (m.ramEn, m.sel.toNat)
  | .mbc5 _ m, .reference => some (m.ramEn, m.ramBank.toNat)
  | _, _ => none

theorem State.cramBank_mbc1 {m : Mbc1} (h : s.mapper = .mbc1 m) :
    s.cramBank = some (m.ramEn, m.ramBank.toNat) := by simp only [State.cramBank, h]

theorem State.cramBank_mbc3 {m : Mbc3} (h : s.mapper = .mbc3 m) (hmode : s.cfg.otherMbc = .reference) :
    s.cramBank = some (m.ramEn, m.sel.toNat) := by simp only [State.cramBank, h, hmode]

theorem State.cramBank_mbc5 {r : Bool} {m : Mbc5} (h : s.mapper = .mbc5 r m)
    (hmode : s.cfg.otherMbc = .reference) : s.cramBank = some (m.ramEn, m.ramBank.toNat) := by
  simp only [State.cramBank, h, hmode]

variable {en : Bool} {bank : Nat}

theorem cartRead_cram (h : s.cramBank = some (en, bank)) (ha : 0x7FFF < a.toNat) :
    cartRead a s = cramRead en bank a s := by
  unfold State.cramBank at h
  unfold cartRead
  split at h <;> cases h <;> simp only [*, Nat.not_le.mpr ha, if_false]

theorem cartWrite_cram (h : s.cramBank = some (en, bank)) (ha : 0x7FFF < a.toNat) (v : Byte) :
    cartWrite a v s = cramWrite en bank a v s := by
  unfold State.cramBank at h
  unfold cartWrite
  split at h <;> cases h <;> simp only [*, Nat.not_le.mpr ha, if_false]

theorem cramOffset_eq (bank : Nat) (a : Word) : cramOffset bank a = bank * 0x2000 + (a.toNat - 0xA000) := by
  unfold cramOffset
  rfl

theorem cramRead_eq (en : Bool) (bank : Nat) (a : Word) (s : State) :
    cramRead en bank a s =
      if en = false then .ok 0xFF#8 s
      else if cramOffset bank a < s.cramSize then .ok (s.cram.read (cramOffset bank a)) s
      else .error (.raised .invalidAddress a none) s := by
  cases en <;> simp [cramRead]

theorem cramWrite_eq (en : Bool) (bank : Nat) (a : Word) (v : Byte) (s : State) :
    cramWrite en bank a v s =
      if en = false then .ok () s
      else if cramOffset bank a < s.cramSize then .ok () { s with cram := s.cram.write (cramOffset bank a) v }
      else .error (.raised .invalidAddress a none) s := by
  cases en <;> simp [cramWrite]

theorem memRead_cram (h : s.cramBank = some (en, bank)) (ha : 0xA000 ≤ a.toNat ∧ a.toNat ≤ 0xBFFF) :
    memRead a s =
      if en = false then .ok 0xFF#8 s
      else if cramOffset bank a < s.cramSize then .ok (s.cram.read (cramOffset bank a)) s
      else .error (.raised .invalidAddress a none) s := by
  rw [memRead_cartRam ((regionOf_cartRam a).mpr ha), cartRead_cram h (by omega), cramRead_eq]

theorem memWrite_cram (h : s.cramBank = some (en, bank)) (ha : 0xA000 ≤ a.toNat ∧ a.toNat ≤ 0xBFFF)
    (v : Byte) :
    memWrite a v s =
      if en = false then .ok () s
      else if cramOffset bank a < s.cramSize then .ok () { s with cram := s.cram.write (cramOffset bank a) v }
      else .error (.raised .invalidAddress a none) s := by
  rw [memWrite_cartRam v ((regionOf_cartRam a).mpr ha), cartWrite_cram h (by omega), cramWrite_eq]

/-! ## The other variants -/

theorem cartRead_romOnly (h : s.mapper = .romOnly) (ha : 0x7FFF < a.toNat) :
    cartRead a s = .error (.raised .invalidAddress a none) s := by
  simp only [cartRead, h, Nat.not_le.mpr ha, if_false, raise_apply]

theorem cartWrite_romOnly (h : s.mapper = .romOnly) (a : Word) (v : Byte) :
    cartWrite a v s = .error (.raised .illegalWrite a none) s := by
  simp only [cartWrite, h, raise_apply]

/-- A variant of R140 under OTHER_MBC_MODE = refuse. -/
def State.refusesMbc (s : State) : Prop :=
  s.cfg.otherMbc = .refuse ∧ (∀ m, s.mapper ≠ .mbc1 m) ∧ s.mapper ≠ .romOnly

theorem cartRead_refused (h : s.refusesMbc) (ha : 0x7FFF < a.toNat) : cartRead a s = .error .refused s := by
  obtain ⟨hmode, hmbc1, hromOnly⟩ := h
  unfold cartRead
  cases hm : s.mapper with
  | romOnly => exact absurd hm hromOnly
  | mbc1 m => exact absurd hm (hmbc1 m)
  | mbc2 | mbc3 | mbc5 =>
    simp only [hmode, unspecifiedRead, Nat.not_le.mpr ha, if_false, refuseAccess_apply]

theorem cartWrite_refused (h : s.refusesMbc) (a : Word) (v : Byte) : cartWrite a v s = .error .refused s := by
  obtain ⟨hmode, hmbc1, hromOnly⟩ := h
  unfold cartWrite
  cases hm : s.mapper with
  | romOnly => exact absurd hm hromOnly
  | mbc1 m => exact absurd hm (hmbc1 m)
  | mbc2 | mbc3 | mbc5 => simp only [hmode, refuseAccess_apply]

theorem State.shownRomBank_romOnly (h : s.mapper = .romOnly) : s.shownRomBank = 1 := by
  simp only [State.shownRomBank, h]

theorem State.shownRomBank_refused (h : s.refusesMbc) : s.shownRomBank = 1 := by
  obtain ⟨hmode, hmbc1, hromOnly⟩ := h
  unfold State.shownRomBank
  cases hm : s.mapper with
  | romOnly => rfl
  | mbc1 m => exact absurd hm (hmbc1 m)
  | mbc2 | mbc3 | mbc5 => simp only [hmode]

/-- Where the ROM region shows banks 0 and 1, an address is its own offset in the image. -/
theorem memRead_flatRom (hbank : s.shownRomBank = 1) (ha : a.toNat ≤ 0x7FFF)
    (hb : 0x0100 ≤ a.toNat ∨ s.bootOff = true) :
    memRead a s =
      if a.toNat < s.romSize then .ok (s.rom.read a.toNat) s
      else .error (.raised .invalidAddress a none) s := by
  rw [memRead_rom ha hb, hbank, romOffset_one ha]

/-- A write to either cartridge region goes to the controller (20_memory.md R98, R116). -/
theorem memWrite_cartridge (ha : a.toNat ≤ 0x7FFF ∨ (0xA000 ≤ a.toNat ∧ a.toNat ≤ 0xBFFF)) (v : Byte)
    (s : State) : memWrite a v s = cartWrite a v s := by
  obtain ha | ha := ha
  · exact memWrite_cartRom v ((regionOf_cartRom a).mpr ha) s
  · exact memWrite_cartRam v ((regionOf_cartRam a).mpr ha) s

/-- Settles O15: a ROM-only cartridge shows banks 0 and 1 and has no RAM and no control write. -/
theorem romOnlyCartridge : Obligations.RomOnlyCartridge := by
  unfold Obligations.RomOnlyCartridge
  intro a v s h
  refine ⟨memRead_flatRom (State.shownRomBank_romOnly h), fun ha => ?_, fun ha => ?_⟩
  · rw [memRead_cartRam ((regionOf_cartRam a).mpr ha), cartRead_romOnly h (by omega)]
  · rw [memWrite_cartridge ha, cartWrite_romOnly h]

/-- Settles O17, by the image and the CRAM that the two registers of MBC1 select. -/
theorem mbc1Translation : Obligations.Mbc1Translation := by
  unfold Obligations.Mbc1Translation
  intro a v s m h
  have hbank : s.shownRomBank = m.romBank.toNat := by simp only [State.shownRomBank, h]
  refine ⟨fun ha hb off hoff => ?_, fun ha off hoff => ?_⟩
  · rw [memRead_rom ha hb, hbank, hoff, romOffset]
  · rw [hoff, ← cramOffset_eq]
    exact ⟨memRead_cram (State.cramBank_mbc1 h) ha, memWrite_cram (State.cramBank_mbc1 h) ha v⟩

/-- Settles O18: a refused variant shows banks 0 and 1, and every other access to it is refused. -/
theorem otherVariantsRefuse : Obligations.OtherVariantsRefuse := by
  unfold Obligations.OtherVariantsRefuse
  intro a v s hmode hmbc1 hromOnly
  have h : s.refusesMbc := ⟨hmode, hmbc1, hromOnly⟩
  refine ⟨memRead_flatRom (State.shownRomBank_refused h), fun ha => ?_, fun ha => ?_⟩
  · rw [memRead_cartRam ((regionOf_cartRam a).mpr ha), cartRead_refused h (by omega)]
  · rw [memWrite_cartridge ha, cartWrite_refused h]

end Sys2Proof.Machine
end

section
/-! PROOFS. Bank registers as numbers, and the control writes of MBC1 (20_memory.md R110-R116): O16. -/

namespace Sys2Proof.Machine

variable {a : Word} {v : Byte} {s : State}

/-! ## Bit fields as numbers -/

theorem toNat_append_eq {n k : Nat} (x : BitVec n) (y : BitVec k) :
    (x ++ y).toNat = x.toNat * 2 ^ k + y.toNat := by
  rw [BitVec.toNat_append, ← Nat.shiftLeft_add_eq_or_of_lt y.isLt, Nat.shiftLeft_eq]

theorem setWidth_eq_iff {n : Nat} (v : Byte) (k : BitVec n) : v.setWidth n = k ↔ v.toNat % 2 ^ n = k.toNat := by
  rw [BitVec.toNat_eq, BitVec.toNat_setWidth]

theorem setWidth_eq_ofNat_mod (n : Nat) (v : Byte) : v.setWidth n = BitVec.ofNat n (v.toNat % 2 ^ n) := by
  rw [← BitVec.toNat_setWidth, BitVec.ofNat_toNat, BitVec.setWidth_eq]

/-- The low bits of a byte as a bank number, with 0 forced to 1 (R111, R141, R142). -/
theorem forcedBank_eq (n : Nat) (v : Byte) :
    (if v.setWidth n = 0#n then 1#n else v.setWidth n) =
      BitVec.ofNat n (if v.toNat % 2 ^ n = 0 then 1 else v.toNat % 2 ^ n) := by
  simp only [setWidth_eq_iff, BitVec.toNat_zero]
  split
  · rfl
  · exact setWidth_eq_ofNat_mod n v

/-- The upper two bits kept, the lower five written (R111). -/
theorem keepHigh_or_low5 (x : BitVec 7) (y : BitVec 5) :
    (x &&& 0x60#7) ||| y.setWidth 7 = BitVec.ofNat 7 (x.toNat / 32 * 32 + y.toNat) := by
  have h : (x &&& 0x60#7) ||| y.setWidth 7 = x.extractLsb' 5 2 ++ y := by
    apply BitVec.eq_of_getLsbD_eq
    intro i hi
    rw [BitVec.getLsbD_append]
    interval_cases i <;> simp
  apply BitVec.eq_of_toNat_eq
  rw [h, toNat_append_eq, BitVec.extractLsb'_toNat, Nat.shiftRight_eq_div_pow, BitVec.toNat_ofNat]
  omega

/-- The upper two bits written, the lower five kept (R112). -/
theorem high2_or_keepLow (x : BitVec 7) (y : Byte) :
    (y.setWidth 2).setWidth 7 <<< 5 ||| (x &&& 0x1F#7) =
      BitVec.ofNat 7 (y.toNat % 4 * 32 + x.toNat % 32) := by
  have h : (y.setWidth 2).setWidth 7 <<< 5 ||| (x &&& 0x1F#7) = y.setWidth 2 ++ x.setWidth 5 := by
    apply BitVec.eq_of_getLsbD_eq
    intro i hi
    rw [BitVec.getLsbD_append]
    interval_cases i <;> simp
  apply BitVec.eq_of_toNat_eq
  rw [h, toNat_append_eq, BitVec.toNat_setWidth, BitVec.toNat_setWidth, BitVec.toNat_ofNat]
  omega

/-- The upper bit kept, the lower eight written (R143). -/
theorem keepHigh_or_low8 (x : BitVec 9) (y : Byte) :
    (x &&& 0x100#9) ||| y.setWidth 9 = BitVec.ofNat 9 (x.toNat / 256 * 256 + y.toNat) := by
  have h : (x &&& 0x100#9) ||| y.setWidth 9 = x.extractLsb' 8 1 ++ y := by
    apply BitVec.eq_of_getLsbD_eq
    intro i hi
    rw [BitVec.getLsbD_append]
    interval_cases i <;> simp
  apply BitVec.eq_of_toNat_eq
  rw [h, toNat_append_eq, BitVec.extractLsb'_toNat, Nat.shiftRight_eq_div_pow, BitVec.toNat_ofNat]
  omega

/-- The upper bit written, the lower eight kept (R143). -/
theorem keepLow_or_high1 (x : BitVec 9) (y : Byte) :
    (x &&& 0x0FF#9) ||| (y.setWidth 1).setWidth 9 <<< 8 =
      BitVec.ofNat 9 (y.toNat % 2 * 256 + x.toNat % 256) := by
  have h : (x &&& 0x0FF#9) ||| (y.setWidth 1).setWidth 9 <<< 8 = y.setWidth 1 ++ x.setWidth 8 := by
    apply BitVec.eq_of_getLsbD_eq
    intro i hi
    rw [BitVec.getLsbD_append]
    interval_cases i <;> simp
  apply BitVec.eq_of_toNat_eq
  rw [h, toNat_append_eq, BitVec.toNat_setWidth, BitVec.toNat_setWidth, BitVec.toNat_ofNat]
  omega

/-! ## MBC1 -/

section Mbc1

variable (m : Mbc1)

theorem Mbc1.control_ramEnable (ha : a.toNat ≤ 0x1FFF) :
    m.control a v = { m with ramEn := decide (v = 0x0A#8) } := by simp only [Mbc1.control, ha, if_true]

theorem Mbc1.control_romBank (ha : 0x2000 ≤ a.toNat ∧ a.toNat ≤ 0x3FFF) :
    m.control a v = { m with
      romBank :=
        BitVec.ofNat 7 (m.romBank.toNat / 32 * 32 + (if v.toNat % 32 = 0 then 1 else v.toNat % 32)) } := by
  have hlow : (if v.toNat % 32 = 0 then 1 else v.toNat % 32) < 32 := by split <;> omega
  simp only [Mbc1.control, show ¬ a.toNat ≤ 0x1FFF by omega, ha.2, if_true, if_false, keepHigh_or_low5,
    forcedBank_eq, BitVec.toNat_ofNat, Nat.reducePow, Nat.mod_eq_of_lt hlow]

theorem Mbc1.control_upper_rom (ha : 0x4000 ≤ a.toNat ∧ a.toNat ≤ 0x5FFF) (hmode : m.mode = .rom) :
    m.control a v = { m with romBank := BitVec.ofNat 7 (v.toNat % 4 * 32 + m.romBank.toNat % 32) } := by
  simp only [Mbc1.control, show ¬ a.toNat ≤ 0x1FFF by omega, show ¬ a.toNat ≤ 0x3FFF by omega, ha.2, hmode,
    if_true, if_false, high2_or_keepLow]

theorem Mbc1.control_upper_ram (ha : 0x4000 ≤ a.toNat ∧ a.toNat ≤ 0x5FFF) (hmode : m.mode = .ram) :
    m.control a v = { m with ramBank := v.setWidth 2 } := by
  simp only [Mbc1.control, show ¬ a.toNat ≤ 0x1FFF by omega, show ¬ a.toNat ≤ 0x3FFF by omega, ha.2, hmode,
    if_true, if_false]

theorem Mbc1.control_mode (ha : 0x6000 ≤ a.toNat) :
    m.control a v = { m with mode := if v = 0x00#8 then .rom else .ram } := by
  simp only [Mbc1.control, show ¬ a.toNat ≤ 0x1FFF by omega, show ¬ a.toNat ≤ 0x3FFF by omega,
    show ¬ a.toNat ≤ 0x5FFF by omega, if_false]

variable {m}

theorem memWrite_mbc1 (h : s.mapper = .mbc1 m) (ha : a.toNat ≤ 0x7FFF) :
    memWrite a v s =
      if 0x6000 ≤ a.toNat ∧ v ≠ 0x00#8 ∧ v ≠ 0x01#8 then .error (.raised .invalidBankingMode a (some v)) s
      else .ok () { s with mapper := .mbc1 (m.control a v) } := by
  rw [memWrite_cartridge (.inl ha)]
  simp only [cartWrite, h, ha, if_true, raise_apply]

theorem memWrite_mbc1_bank (h : s.mapper = .mbc1 m) (ha : a.toNat ≤ 0x5FFF) :
    memWrite a v s = .ok () { s with mapper := .mbc1 (m.control a v) } := by
  rw [memWrite_mbc1 h (by omega), if_neg (by omega)]

theorem memWrite_mbc1_mode (h : s.mapper = .mbc1 m) (ha : 0x6000 ≤ a.toNat ∧ a.toNat ≤ 0x7FFF) :
    memWrite a v s =
      if v = 0x00#8 then .ok () { s with mapper := .mbc1 { m with mode := .rom } }
      else if v = 0x01#8 then .ok () { s with mapper := .mbc1 { m with mode := .ram } }
      else .error (.raised .invalidBankingMode a (some v)) s := by
  rw [memWrite_mbc1 h ha.2, Mbc1.control_mode m ha.1]
  by_cases h0 : v = 0x00#8
  · subst h0
    rw [if_neg fun ⟨_, hne, _⟩ => hne rfl]
    rfl
  · by_cases h1 : v = 0x01#8
    · subst h1
      rw [if_neg fun ⟨_, _, hne⟩ => hne rfl]
      rfl
    · rw [if_pos ⟨ha.1, h0, h1⟩, if_neg h0, if_neg h1]

end Mbc1

/-- Settles O16: a legal control write replaces the bank registers by `Mbc1.control`, one field per window. -/
theorem mbc1ControlWrites : Obligations.Mbc1ControlWrites := by
  unfold Obligations.Mbc1ControlWrites
  intro a v s m h
  refine ⟨fun ha => ?_, fun ha => ?_, fun ha hmode => ?_, fun ha hmode => ?_, memWrite_mbc1_mode h⟩
  · rw [memWrite_mbc1_bank h (by omega), Mbc1.control_ramEnable m ha]
  · refine ⟨_, by rw [memWrite_mbc1_bank h (by omega), Mbc1.control_romBank m ha], ?_⟩
    rw [BitVec.toNat_ofNat, Nat.mod_eq_of_lt]
    split <;> omega
  · refine ⟨_, by rw [memWrite_mbc1_bank h ha.2, Mbc1.control_upper_rom m ha hmode], ?_⟩
    rw [BitVec.toNat_ofNat, Nat.mod_eq_of_lt]
    omega
  · exact ⟨v.setWidth 2, by rw [memWrite_mbc1_bank h ha.2, Mbc1.control_upper_ram m ha hmode],
      BitVec.toNat_setWidth ..⟩

end Sys2Proof.Machine
end

section
/-! PROOFS. The reference profiles of the MBC2, MBC3 and MBC5 classes (20_memory.md R141-R143): O19. -/

namespace Sys2Proof.Machine

variable {a : Word} {v : Byte} {s : State}

/-! ## The MBC2 class -/

section Mbc2

variable (m : Mbc2)

theorem getLsbD_eight (a : Word) : a.getLsbD 8 = decide (a.toNat / 256 % 2 ≠ 0) := by
  rw [BitVec.getLsbD, Nat.testBit_eq_decide_div_mod_eq]
  simp only [Nat.reducePow, decide_eq_decide]
  omega

theorem Mbc2.control_low (ha : a.toNat ≤ 0x3FFF) :
    m.control a v =
      if a.toNat / 256 % 2 = 0 then { m with ramEn := decide (v.toNat % 16 = 0xA) }
      else { m with romBank := BitVec.ofNat 4 (if v.toNat % 16 = 0 then 1 else v.toNat % 16) } := by
  have hen : (v.setWidth 4 = 0xA#4) = (v.toNat % 16 = 0xA) := propext (setWidth_eq_iff v 0xA#4)
  have hbank := forcedBank_eq 4 v
  simp only [Mbc2.control, ha, if_true, getLsbD_eight, hen, hbank]
  by_cases h : a.toNat / 256 % 2 = 0 <;> simp [h]

theorem Mbc2.control_high (ha : 0x4000 ≤ a.toNat) : m.control a v = m := by
  simp only [Mbc2.control, show ¬ a.toNat ≤ 0x3FFF by omega, if_false]

variable {m}

theorem memWrite_mbc2 (h : s.mapper = .mbc2 m) (hmode : s.cfg.otherMbc = .reference) (ha : a.toNat ≤ 0x7FFF) :
    memWrite a v s = .ok () { s with mapper := .mbc2 (m.control a v) } := by
  rw [memWrite_cartridge (.inl ha)]
  simp only [cartWrite, h, hmode, ha, if_true]

theorem memRead_mbc2_ram (h : s.mapper = .mbc2 m) (hmode : s.cfg.otherMbc = .reference)
    (ha : 0xA000 ≤ a.toNat ∧ a.toNat ≤ 0xBFFF) :
    memRead a s = .ok (if m.ramEn then 0xF0#8 ||| s.cram2.read (a.toNat % 512) else 0xFF#8) s := by
  rw [memRead_cartRam ((regionOf_cartRam a).mpr ha)]
  simp only [cartRead, h, hmode, show ¬ a.toNat ≤ 0x7FFF by omega, if_false, cram2Read, cram2Index]
  split <;> rfl

theorem memWrite_mbc2_ram (h : s.mapper = .mbc2 m) (hmode : s.cfg.otherMbc = .reference)
    (ha : 0xA000 ≤ a.toNat ∧ a.toNat ≤ 0xBFFF) :
    memWrite a v s =
      .ok () (if m.ramEn then { s with cram2 := s.cram2.write (a.toNat % 512) (v &&& 0x0F#8) } else s) := by
  rw [memWrite_cartridge (.inr ha)]
  simp only [cartWrite, h, hmode, show ¬ a.toNat ≤ 0x7FFF by omega, if_false, cram2Write, cram2Index]
  split <;> rfl

end Mbc2

/-! ## The MBC3 class -/

section Mbc3

variable (m : Mbc3)

theorem Mbc3.control_ramEnable (ha : a.toNat ≤ 0x1FFF) :
    m.control a v = { m with ramEn := decide (v.toNat % 16 = 0xA) } := by
  have hen : (v.setWidth 4 = 0xA#4) = (v.toNat % 16 = 0xA) := propext (setWidth_eq_iff v 0xA#4)
  simp only [Mbc3.control, ha, if_true, hen]

theorem Mbc3.control_romBank (ha : 0x2000 ≤ a.toNat ∧ a.toNat ≤ 0x3FFF) :
    m.control a v = { m with
      romBank := BitVec.ofNat 7 (if v.toNat % 128 = 0 then 1 else v.toNat % 128) } := by
  simp only [Mbc3.control, show ¬ a.toNat ≤ 0x1FFF by omega, ha.2, if_true, if_false, forcedBank_eq,
    Nat.reducePow]

theorem Mbc3.control_sel (ha : 0x4000 ≤ a.toNat ∧ a.toNat ≤ 0x5FFF) :
    m.control a v = { m with sel := BitVec.ofNat 2 v.toNat } := by
  simp only [Mbc3.control, show ¬ a.toNat ≤ 0x1FFF by omega, show ¬ a.toNat ≤ 0x3FFF by omega, ha.2, if_true,
    if_false, BitVec.ofNat_toNat]

theorem Mbc3.control_high (ha : 0x6000 ≤ a.toNat) : m.control a v = m := by
  simp only [Mbc3.control, show ¬ a.toNat ≤ 0x1FFF by omega, show ¬ a.toNat ≤ 0x3FFF by omega,
    show ¬ a.toNat ≤ 0x5FFF by omega, if_false]

variable {m}

theorem memWrite_mbc3 (h : s.mapper = .mbc3 m) (hmode : s.cfg.otherMbc = .reference) (ha : a.toNat ≤ 0x7FFF) :
    memWrite a v s =
      if 0x4000 ≤ a.toNat ∧ a.toNat ≤ 0x5FFF ∧ 0x03 < v.toNat then .error .refused s
      else .ok () { s with mapper := .mbc3 (m.control a v) } := by
  rw [memWrite_cartridge (.inl ha)]
  simp only [cartWrite, h, hmode, ha, if_true, refuseAccess_apply]

theorem memWrite_mbc3_bank (h : s.mapper = .mbc3 m) (hmode : s.cfg.otherMbc = .reference)
    (ha : a.toNat ≤ 0x7FFF) (hsel : a.toNat ≤ 0x3FFF ∨ 0x6000 ≤ a.toNat) :
    memWrite a v s = .ok () { s with mapper := .mbc3 (m.control a v) } := by
  rw [memWrite_mbc3 h hmode ha, if_neg (by omega)]

theorem memWrite_mbc3_sel (h : s.mapper = .mbc3 m) (hmode : s.cfg.otherMbc = .reference)
    (ha : 0x4000 ≤ a.toNat ∧ a.toNat ≤ 0x5FFF) :
    memWrite a v s =
      if v.toNat ≤ 3 then .ok () { s with mapper := .mbc3 { m with sel := BitVec.ofNat 2 v.toNat } }
      else .error .refused s := by
  rw [memWrite_mbc3 h hmode (by omega), Mbc3.control_sel m ha]
  by_cases hv : v.toNat ≤ 3
  · rw [if_neg (by omega), if_pos hv]
  · rw [if_pos (by omega), if_neg hv]

end Mbc3

/-! ## The MBC5 class -/

section Mbc5

variable (r : Bool) (m : Mbc5)

theorem Mbc5.control_ramEnable (ha : a.toNat ≤ 0x1FFF) :
    Mbc5.control r m a v = { m with ramEn := decide (v = 0x0A#8) } := by
  simp only [Mbc5.control, ha, if_true]

theorem Mbc5.control_romBankLow (ha : 0x2000 ≤ a.toNat ∧ a.toNat ≤ 0x2FFF) :
    Mbc5.control r m a v = { m with romBank := BitVec.ofNat 9 (m.romBank.toNat / 256 * 256 + v.toNat) } := by
  simp only [Mbc5.control, show ¬ a.toNat ≤ 0x1FFF by omega, ha.2, if_true, if_false, keepHigh_or_low8]

theorem Mbc5.control_romBankHigh (ha : 0x3000 ≤ a.toNat ∧ a.toNat ≤ 0x3FFF) :
    Mbc5.control r m a v = { m with
      romBank := BitVec.ofNat 9 (v.toNat % 2 * 256 + m.romBank.toNat % 256) } := by
  simp only [Mbc5.control, show ¬ a.toNat ≤ 0x1FFF by omega, show ¬ a.toNat ≤ 0x2FFF by omega, ha.2, if_true,
    if_false, keepLow_or_high1]

theorem Mbc5.control_ramBank (ha : 0x4000 ≤ a.toNat ∧ a.toNat ≤ 0x5FFF) :
    Mbc5.control r m a v = { m with
      ramBank := BitVec.ofNat 4 (if r then v.toNat % 8 else v.toNat % 16) } := by
  simp only [Mbc5.control, show ¬ a.toNat ≤ 0x1FFF by omega, show ¬ a.toNat ≤ 0x2FFF by omega,
    show ¬ a.toNat ≤ 0x3FFF by omega, ha.2, if_true, if_false]
  cases r with
  | true => simp only [if_true, ← BitVec.ofNat_toNat 4, BitVec.toNat_setWidth, Nat.reducePow]
  | false => simp only [Bool.false_eq_true, if_false, setWidth_eq_ofNat_mod 4 v, Nat.reducePow]

theorem Mbc5.control_high (ha : 0x6000 ≤ a.toNat) : Mbc5.control r m a v = m := by
  simp only [Mbc5.control, show ¬ a.toNat ≤ 0x1FFF by omega, show ¬ a.toNat ≤ 0x2FFF by omega,
    show ¬ a.toNat ≤ 0x3FFF by omega, show ¬ a.toNat ≤ 0x5FFF by omega, if_false]

variable {r m}

theorem memWrite_mbc5 (h : s.mapper = .mbc5 r m) (hmode : s.cfg.otherMbc = .reference)
    (ha : a.toNat ≤ 0x7FFF) :
    memWrite a v s = .ok () { s with mapper := .mbc5 r (Mbc5.control r m a v) } := by
  rw [memWrite_cartridge (.inl ha)]
  simp only [cartWrite, h, hmode, ha, if_true]

end Mbc5

/-! ## The profiles -/

theorem Variant.mapper_eq_mbc2 {w : Variant} {m : Mbc2} (h : w.mapper = .mbc2 m) : w = .mbc2 ∧ m = {} := by
  cases w <;> cases h
  exact ⟨rfl, rfl⟩

theorem Variant.mapper_eq_mbc3 {w : Variant} {m : Mbc3} (h : w.mapper = .mbc3 m) : m = {} := by
  cases w <;> cases h
  rfl

theorem Variant.mapper_eq_mbc5 {w : Variant} {r : Bool} {m : Mbc5} (h : w.mapper = .mbc5 r m) : m = {} := by
  cases w <;> cases h
  rfl

theorem read_initialCram2_mbc2 {init : List Byte} {k : Nat} (hk : k < 512) (hv : init[k]? = some v) :
    (initialCram2 .mbc2 init).read k = v &&& 0x0F#8 :=
  Memory.read_ofBytes hk (by rw [List.getElem?_map, hv, Option.map_some])

/-- The bank registers and the cells of a constructed machine (the reset values of R141-R143). -/
theorem construct_ok_profiles {image : List Byte} {p : Params} (h : construct image p = .ok s) :
    (∀ m, s.mapper = .mbc2 m → m.ramEn = false ∧ m.romBank = 1#4 ∧
      ∀ k x, k < 512 → p.initCram[k]? = some x → s.cram2.read k = x &&& 0x0F#8) ∧
    (∀ m, s.mapper = .mbc3 m → m.ramEn = false ∧ m.romBank = 1#7 ∧ m.sel = 0#2) ∧
    (∀ r m, s.mapper = .mbc5 r m → m.ramEn = false ∧ m.romBank = 1#9 ∧ m.ramBank = 0#4) := by
  obtain ⟨w, -, rfl⟩ := construct_ok h
  refine ⟨fun m hm => ?_, fun m hm => ?_, fun r m hm => ?_⟩
  · obtain ⟨rfl, rfl⟩ := Variant.mapper_eq_mbc2 hm
    exact ⟨rfl, rfl, fun _ _ => read_initialCram2_mbc2⟩
  · obtain rfl := Variant.mapper_eq_mbc3 hm
    exact ⟨rfl, rfl, rfl⟩
  · obtain rfl := Variant.mapper_eq_mbc5 hm
    exact ⟨rfl, rfl, rfl⟩

theorem State.shownRomBank_reference {bank : Nat} (hmode : s.cfg.otherMbc = .reference)
    (h : (∃ m, s.mapper = .mbc2 m ∧ bank = m.romBank.toNat) ∨
      (∃ m, s.mapper = .mbc3 m ∧ bank = m.romBank.toNat) ∨
      (∃ r m, s.mapper = .mbc5 r m ∧ bank = m.romBank.toNat)) : s.shownRomBank = bank := by
  obtain ⟨m, hm, rfl⟩ | ⟨m, hm, rfl⟩ | ⟨r, m, hm, rfl⟩ := h <;>
    simp only [State.shownRomBank, hm, hmode]

theorem State.cramBank_reference {en : Bool} {bank : Nat} (hmode : s.cfg.otherMbc = .reference)
    (h : (∃ m, s.mapper = .mbc3 m ∧ en = m.ramEn ∧ bank = m.sel.toNat) ∨
      (∃ r m, s.mapper = .mbc5 r m ∧ en = m.ramEn ∧ bank = m.ramBank.toNat)) :
    s.cramBank = some (en, bank) := by
  obtain ⟨m, hm, rfl, rfl⟩ | ⟨r, m, hm, rfl, rfl⟩ := h
  · exact State.cramBank_mbc3 hm hmode
  · exact State.cramBank_mbc5 hm hmode

/-- A control write that keeps the bank registers keeps the state. -/
theorem State.with_mapper_self {x : Mapper} (h : s.mapper = x) : { s with mapper := x } = s := by
  rw [← h]

/-- Settles O19: reset values by construction, ROM by the bank shown, external RAM by the CRAM or the cells
reached, and each control write by the window's equation for the registers. -/
theorem referenceProfiles : Obligations.ReferenceProfiles := by
  unfold Obligations.ReferenceProfiles
  refine ⟨fun _ _ _ => construct_ok_profiles, fun a v s hmode => ⟨?rom, ?cram, ?mbc2, ?mbc3, ?mbc5⟩⟩
  case rom =>
    intro bank hbank ha hb off hoff
    rw [memRead_rom ha hb, State.shownRomBank_reference hmode hbank, hoff, romOffset]
  case cram =>
    intro en bank hbank ha off hoff
    have hcram := State.cramBank_reference hmode hbank
    rw [hoff, ← cramOffset_eq]
    exact ⟨memRead_cram hcram ha, memWrite_cram hcram ha v⟩
  case mbc2 =>
    intro m h
    refine ⟨fun ha => ?_, fun ha => ?_, fun ha => ⟨memRead_mbc2_ram h hmode ha, memWrite_mbc2_ram h hmode ha⟩⟩
    · rw [memWrite_mbc2 h hmode (by omega), Mbc2.control_low m ha]
    · rw [memWrite_mbc2 h hmode ha.2, Mbc2.control_high m ha.1, State.with_mapper_self h]
  case mbc3 =>
    intro m h
    refine ⟨fun ha => ?_, fun ha => ?_, memWrite_mbc3_sel h hmode, fun ha => ?_⟩
    · rw [memWrite_mbc3_bank h hmode (by omega) (by omega), Mbc3.control_ramEnable m ha]
    · rw [memWrite_mbc3_bank h hmode (by omega) (by omega), Mbc3.control_romBank m ha]
    · rw [memWrite_mbc3_bank h hmode ha.2 (by omega), Mbc3.control_high m ha.1, State.with_mapper_self h]
  case mbc5 =>
    intro r m h
    refine ⟨fun ha => ?_, fun ha => ?_, fun ha => ?_, fun ha => ?_, fun ha => ?_⟩
    · rw [memWrite_mbc5 h hmode (by omega), Mbc5.control_ramEnable r m ha]
    · rw [memWrite_mbc5 h hmode (by omega), Mbc5.control_romBankLow r m ha]
    · rw [memWrite_mbc5 h hmode (by omega), Mbc5.control_romBankHigh r m ha]
    · rw [memWrite_mbc5 h hmode (by omega), Mbc5.control_ramBank r m ha]
    · rw [memWrite_mbc5 h hmode ha.2, Mbc5.control_high r m ha.1, State.with_mapper_self h]

end Sys2Proof.Machine
end

section
/-! PROOFS. The storage cell an address names, and what a byte written there changes (20_memory.md R88, R92-R98,
R114): O13 and O14. -/

namespace Sys2Proof.Machine

/-- The stores whose bytes are read back as written. -/
inductive Store where
  | vram
  | wram
  | oam
  | cram

namespace State

/-- The bytes of a store. -/
def store (s : State) : Store → Memory
  | .vram => s.vram
  | .wram => s.wram
  | .oam => s.oam
  | .cram => s.cram

/-- The state with other bytes in a store. -/
def withStore (s : State) (k : Store) (m : Memory) : State :=
  match k with
  | .vram => { s with vram := m }
  | .wram => { s with wram := m }
  | .oam => { s with oam := m }
  | .cram => { s with cram := m }

/-- The cell of CRAM an external-RAM address names, where RAM is enabled and the image has it (R114). -/
def cramCell (s : State) (a : Word) : Option (Store × Nat) :=
  match s.cramBank with
  | some (true, bank) => if cramOffset bank a < s.cramSize then some (.cram, cramOffset bank a) else none
  | _ => none

/-- The cell of plain storage an address names: a store and an index (R92-R95, R114). -/
def cell (s : State) (a : Word) : Option (Store × Nat) :=
  match regionOf a with
  | .vram => some (.vram, a.toNat - 0x8000)
  | .wram => some (.wram, a.toNat - 0xC000)
  | .echo => some (.wram, a.toNat - 0xE000)
  | .oam => some (.oam, a.toNat - 0xFE00)
  | .cartRam => s.cramCell a
  | _ => none

variable (s : State) (k : Store) (m : Memory)

@[simp] theorem store_withStore_same : (s.withStore k m).store k = m := by cases k <;> rfl

theorem store_withStore_of_ne {j : Store} (h : j ≠ k) : (s.withStore k m).store j = s.store j := by
  cases k <;> cases j <;> first | rfl | exact absurd rfl h

@[simp] theorem withStore_cell (a : Word) : (s.withStore k m).cell a = s.cell a := by cases k <;> rfl

variable {s} {a : Word} {i : Nat}

theorem cramCell_eq_some (h : s.cramCell a = some (k, i)) :
    k = .cram ∧ ∃ bank, s.cramBank = some (true, bank) ∧ i = cramOffset bank a ∧ i < s.cramSize := by
  unfold cramCell at h
  split at h
  next bank hbank =>
    split at h
    next hlt =>
      cases h
      exact ⟨rfl, bank, hbank, rfl, hlt⟩
    next => cases h
  next => cases h

theorem isStorage_cartRam (hr : regionOf a = .cartRam) : s.isStorage a = (s.cramCell a).isSome := by
  have hcell (en : Bool) (bank : Nat) (h : s.cramBank = some (en, bank)) :
      (s.cramCell a).isSome = (en && decide (cramOffset bank a < s.cramSize)) := by
    simp only [cramCell, h]
    cases en with
    | false => rfl
    | true =>
      simp only [Bool.true_and]
      split <;> simp [*]
  simp only [isStorage, hr]
  split
  next m _ h => exact (hcell _ _ (cramBank_mbc1 h)).symm
  next m h hmode => exact (hcell _ _ (cramBank_mbc3 h hmode)).symm
  next r m h hmode => exact (hcell _ _ (cramBank_mbc5 h hmode)).symm
  next hmbc1 hmbc3 hmbc5 =>
    have hnone : s.cramBank = none := by
      unfold cramBank
      split
      next h => exact (hmbc1 _ h).elim
      next h hmode => exact (hmbc3 _ h hmode).elim
      next h hmode => exact (hmbc5 _ _ h hmode).elim
      next => rfl
    simp only [cramCell, hnone, Option.isSome_none]

theorem isStorage_eq_cell (s : State) (a : Word) : s.isStorage a = (s.cell a).isSome := by
  cases hr : regionOf a with
  | cartRam => rw [isStorage_cartRam hr, cell, hr]
  | cartRom | vram | wram | echo | oam | unmapped | bootStatus | forwarded =>
    simp only [isStorage, cell, hr, Option.isSome_some, Option.isSome_none]

theorem cell_of_isStorage (h : s.isStorage a = true) : ∃ k i, s.cell a = some (k, i) := by
  rw [isStorage_eq_cell, Option.isSome_iff_exists] at h
  obtain ⟨⟨k, i⟩, hcell⟩ := h
  exact ⟨k, i, hcell⟩

end State

variable {s : State} {k : Store} {a : Word} {i : Nat}

theorem memRead_of_cell (h : s.cell a = some (k, i)) : memRead a s = .ok ((s.store k).read i) s := by
  unfold State.cell at h
  split at h
  next hr => cases h; exact memRead_vram hr s
  next hr => cases h; exact memRead_wram hr s
  next hr => cases h; exact memRead_echo hr s
  next hr => cases h; exact memRead_oam hr s
  next hr =>
    obtain ⟨rfl, bank, hbank, hi, hlt⟩ := State.cramCell_eq_some k h
    rw [memRead_cram hbank ((regionOf_cartRam a).mp hr), if_neg (by decide), ← hi, if_pos hlt]
    rfl
  next => cases h

theorem memWrite_of_cell (h : s.cell a = some (k, i)) (v : Byte) :
    memWrite a v s = .ok () (s.withStore k ((s.store k).write i v)) := by
  unfold State.cell at h
  split at h
  next hr => cases h; exact memWrite_vram v hr s
  next hr => cases h; exact memWrite_wram v hr s
  next hr => cases h; exact memWrite_echo v hr s
  next hr => cases h; exact memWrite_oam v hr s
  next hr =>
    obtain ⟨rfl, bank, hbank, hi, hlt⟩ := State.cramCell_eq_some k h
    rw [memWrite_cram hbank ((regionOf_cartRam a).mp hr), if_neg (by decide), ← hi, if_pos hlt]
    rfl
  next => cases h

theorem State.storesWf.store (h : s.storesWf) (k : Store) : Memory.wf (s.store k) = true := by
  obtain ⟨-, -, hvram, hwram, hoam, hcram, -⟩ := h
  cases k with
  | vram => exact hvram.1
  | wram => exact hwram.1
  | oam => exact hoam.1
  | cram => exact hcram.1

/-- A byte written to a cell is read back at every address of the cell. -/
theorem memRead_withStore_of_cell (hwf : s.storesWf) (h : s.cell a = some (k, i)) (v : Byte) :
    memRead a (s.withStore k ((s.store k).write i v)) = .ok v (s.withStore k ((s.store k).write i v)) := by
  rw [memRead_of_cell ((State.withStore_cell s k _ a).trans h), State.store_withStore_same,
    Memory.read_write_same (hwf.store k)]

/-! ## The home of a cell -/

/-- The least address that names a cell of a store, whatever the bank (R81, R94). -/
def Store.address : Store → Nat → Nat
  | .vram, i => 0x8000 + i
  | .wram, i => 0xC000 + i
  | .oam, i => 0xFE00 + i
  | .cram, i => 0xA000 + i % 0x2000

theorem State.home_of_cramBank {p : Bool × Nat} (hr : regionOf a = .cartRam) (h : s.cramBank = some p) :
    s.home a = a := by
  unfold State.cramBank at h
  split at h
  next hm => simp only [State.home, hr, hm]
  next hm _ => simp only [State.home, hr, hm]
  next hm _ => simp only [State.home, hr, hm]
  next => cases h

theorem State.toNat_home_of_cell (h : s.cell a = some (k, i)) : (s.home a).toNat = k.address i := by
  unfold State.cell at h
  split at h
  next hr =>
    cases h
    have ha := (regionOf_vram a).mp hr
    simp only [State.home, hr, Store.address]
    omega
  next hr =>
    cases h
    have ha := (regionOf_wram a).mp hr
    simp only [State.home, hr, Store.address]
    omega
  next hr =>
    cases h
    have ha := (regionOf_echo a).mp hr
    simp only [State.home, hr, Store.address]
    bv_omega
  next hr =>
    cases h
    have ha := (regionOf_oam a).mp hr
    simp only [State.home, hr, Store.address]
    omega
  next hr =>
    have ha := (regionOf_cartRam a).mp hr
    obtain ⟨rfl, bank, hbank, hi, -⟩ := State.cramCell_eq_some k h
    rw [cramOffset_eq] at hi
    rw [State.home_of_cramBank hr hbank, Store.address]
    omega
  next => cases h

/-- The addresses of one cell have one home. -/
theorem State.home_eq_of_cell_eq {b : Word} (ha : s.cell a = some (k, i)) (hb : s.cell b = some (k, i)) :
    s.home b = s.home a :=
  BitVec.eq_of_toNat_eq ((State.toNat_home_of_cell hb).trans (State.toNat_home_of_cell ha).symm)

/-! ## What an address holds -/

theorem State.peek_of_ok {v : Byte} {t : State} (hr : regionOf a ≠ .forwarded) (h : memRead a s = .ok v t) :
    s.peek a = some v := by simp only [State.peek, hr, if_false, h]

theorem State.peek_of_error {why : Stop} {t : State} (h : memRead a s = .error why t) : s.peek a = none := by
  simp only [State.peek, h, ite_self]

theorem State.peek_of_cell (h : s.cell a = some (k, i)) : s.peek a = some ((s.store k).read i) := by
  refine State.peek_of_ok (fun hr => ?_) (memRead_of_cell h)
  simp only [State.cell, hr] at h
  cases h

theorem State.peek_cartRom (ha : a.toNat ≤ 0x7FFF) (s : State) :
    s.peek a =
      if a.toNat ≤ 0x00FF ∧ s.bootOff = false then some (s.boot.read a.toNat)
      else if romOffset s.shownRomBank a < s.romSize then some (s.rom.read (romOffset s.shownRomBank a))
      else none := by
  have hr : regionOf a ≠ .forwarded := by rw [(regionOf_cartRom a).mpr ha]; decide
  have hread := memRead_eq_ite a s
  by_cases hboot : a.toNat ≤ 0x00FF ∧ s.bootOff = false
  · rw [if_pos hboot] at hread ⊢
    exact State.peek_of_ok hr hread
  · rw [if_neg hboot, if_pos ha, cartRead_rom ha, romRead_eq] at hread
    rw [if_neg hboot]
    by_cases hlt : romOffset s.shownRomBank a < s.romSize
    · rw [if_pos hlt] at hread ⊢
      exact State.peek_of_ok hr hread
    · rw [if_neg hlt] at hread ⊢
      exact State.peek_of_error hread

theorem State.peek_cram {en : Bool} {bank : Nat} (hr : regionOf a = .cartRam)
    (h : s.cramBank = some (en, bank)) (hcell : s.cell a = none) :
    s.peek a = if en = false then some 0xFF#8 else none := by
  have hne : regionOf a ≠ .forwarded := by rw [hr]; decide
  have hread := memRead_cram h ((regionOf_cartRam a).mp hr)
  cases en with
  | false => exact State.peek_of_ok hne hread
  | true =>
    simp only [State.cell, hr, State.cramCell, h, ite_eq_right_iff, reduceCtorEq, imp_false] at hcell
    rw [if_neg (by decide), if_neg hcell] at hread
    exact State.peek_of_error hread

theorem State.cramBank_eq_none (h : s.cramBank = none) :
    s.mapper = .romOnly ∨ s.refusesMbc ∨ ∃ m, s.mapper = .mbc2 m ∧ s.cfg.otherMbc = .reference := by
  cases hm : s.mapper with
  | romOnly => exact .inl rfl
  | mbc1 m => simp only [State.cramBank_mbc1 hm, reduceCtorEq] at h
  | mbc2 m =>
    cases hmode : s.cfg.otherMbc with
    | refuse => exact .inr (.inl ⟨hmode, by simp [hm], by simp [hm]⟩)
    | reference => exact .inr (.inr ⟨m, rfl, rfl⟩)
  | mbc3 m =>
    cases hmode : s.cfg.otherMbc with
    | refuse => exact .inr (.inl ⟨hmode, by simp [hm], by simp [hm]⟩)
    | reference => simp only [State.cramBank_mbc3 hm hmode, reduceCtorEq] at h
  | mbc5 r m =>
    cases hmode : s.cfg.otherMbc with
    | refuse => exact .inr (.inl ⟨hmode, by simp [hm], by simp [hm]⟩)
    | reference => simp only [State.cramBank_mbc5 hm hmode, reduceCtorEq] at h

theorem State.peek_cartRam_withStore (m : Memory) (hr : regionOf a = .cartRam) (hcell : s.cell a = none) :
    (s.withStore k m).peek a = s.peek a := by
  have hbank : (s.withStore k m).cramBank = s.cramBank := by cases k <;> rfl
  cases h : s.cramBank with
  | some p =>
    rw [State.peek_cram hr h hcell, State.peek_cram hr (hbank.trans h) (by rw [State.withStore_cell, hcell])]
  | none =>
    have hmapper : (s.withStore k m).mapper = s.mapper := by cases k <;> rfl
    have hcfg : (s.withStore k m).cfg = s.cfg := by cases k <;> rfl
    have hcram2 : (s.withStore k m).cram2 = s.cram2 := by cases k <;> rfl
    have ha := (regionOf_cartRam a).mp hr
    obtain hrom | hrefuse | ⟨m2, hm2, hmode⟩ := State.cramBank_eq_none h
    · have hread (t : State) (ht : t.mapper = .romOnly) := cartRead_romOnly (a := a) ht (by omega)
      simp only [State.peek, memRead_cartRam hr, hread s hrom, hread _ (hmapper.trans hrom)]
    · have hread (t : State) (ht : t.refusesMbc) := cartRead_refused (a := a) ht (by omega)
      have hrefuse' : (s.withStore k m).refusesMbc := by rwa [State.refusesMbc, hmapper, hcfg]
      simp only [State.peek, memRead_cartRam hr, hread s hrefuse, hread _ hrefuse']
    · have hmode' := (congrArg Config.otherMbc hcfg).trans hmode
      simp only [State.peek, memRead_mbc2_ram hm2 hmode ha, memRead_mbc2_ram (hmapper.trans hm2) hmode' ha,
        hcram2]

/-- A byte of a store is seen only through the addresses of its cells. -/
theorem State.peek_withStore_of_no_cell (m : Memory) (h : s.cell a = none) :
    (s.withStore k m).peek a = s.peek a := by
  cases hr : regionOf a with
  | cartRom =>
    rw [State.peek_cartRom ((regionOf_cartRom a).mp hr), State.peek_cartRom ((regionOf_cartRom a).mp hr)]
    cases k <;> rfl
  | cartRam => exact State.peek_cartRam_withStore m hr h
  | vram | wram | echo | oam =>
    simp only [State.cell, hr] at h
    cases h
  | unmapped => rw [State.peek_of_error (memRead_unmapped hr _), State.peek_of_error (memRead_unmapped hr _)]
  | bootStatus =>
    have hne : regionOf a ≠ .forwarded := by rw [hr]; decide
    rw [State.peek_of_ok hne (memRead_bootStatus hr _), State.peek_of_ok hne (memRead_bootStatus hr _)]
    cases k <;> rfl
  | forwarded => simp only [State.peek, hr, if_true]

/-- A byte written to one cell leaves what every address of another cell holds. -/
theorem State.peek_withStore_of_ne {b : Word} {v : Byte} (hb : s.cell b ≠ some (k, i)) :
    (s.withStore k ((s.store k).write i v)).peek b = s.peek b := by
  cases hcell : s.cell b with
  | none => exact State.peek_withStore_of_no_cell _ hcell
  | some c =>
    obtain ⟨j, n⟩ := c
    rw [State.peek_of_cell hcell, State.peek_of_cell ((State.withStore_cell s k _ b).trans hcell)]
    by_cases hj : j = k
    · subst hj
      have hn : n ≠ i := by
        rintro rfl
        exact hb hcell
      rw [State.store_withStore_same, Memory.read_write_other _ hn]
    · rw [State.store_withStore_of_ne s k _ hj]

/-- Settles O13: a storage address names a cell, which the write and the read are of; an address with another
home names another cell, since the addresses of one cell have one home. -/
theorem readAfterWrite : Obligations.ReadAfterWrite := by
  unfold Obligations.ReadAfterWrite
  intro a v s hwf hstorage
  obtain ⟨k, i, hcell⟩ := State.cell_of_isStorage hstorage
  refine ⟨_, memWrite_of_cell hcell v, memRead_withStore_of_cell hwf hcell v, ?_,
    fun b hb => State.peek_withStore_of_ne fun hbcell => ?_⟩
  · rw [State.isStorage_eq_cell, State.withStore_cell, hcell, Option.isSome_some]
  · exact hb (State.home_eq_of_cell_eq hcell hbcell)

theorem State.cell_echo (ha : 0xE000 ≤ a.toNat ∧ a.toNat ≤ 0xFDFF) (s : State) :
    s.cell a = some (.wram, a.toNat - 0xE000) := by
  simp only [State.cell, (regionOf_echo a).mpr ha]

theorem State.cell_below_echo (ha : 0xE000 ≤ a.toNat ∧ a.toNat ≤ 0xFDFF) (s : State) :
    s.cell (a - 0x2000#16) = some (.wram, a.toNat - 0xE000) := by
  have hsub : (a - 0x2000#16).toNat = a.toNat - 0x2000 := by bv_omega
  have hr : regionOf (a - 0x2000#16) = .wram := (regionOf_wram _).mpr (by omega)
  simp only [State.cell, hr, hsub, Option.some.injEq, Prod.mk.injEq, true_and]
  omega

/-- Settles O14: an echo address and the address 0x2000 below name one cell; the other windows by their
equations. -/
theorem mapWindows : Obligations.MapWindows := by
  unfold Obligations.MapWindows
  intro a v s
  refine ⟨fun ha => ?_, memRead_bootImage, fun ha hb => memRead_cartRom ha hb.symm, fun ha => ?_, fun ha => ?_⟩
  · have hecho := State.cell_echo ha s
    have hbelow := State.cell_below_echo ha s
    refine ⟨?_, ?_, fun hwf => ⟨_, memWrite_of_cell hecho v, memRead_withStore_of_cell hwf hbelow v⟩⟩
    · rw [memRead_of_cell hecho, memRead_of_cell hbelow]
    · rw [memWrite_of_cell hecho, memWrite_of_cell hbelow]
  · refine ⟨memWrite_cartRom v ((regionOf_cartRom a).mpr ha) s, fun s' h => ?_⟩
    obtain ⟨-, -, -, hboot, -, -⟩ := (memWrite_ok h).sameMachine
    exact hboot
  · have hr := (regionOf_unmapped a).mpr ha
    refine ⟨memRead_unmapped hr s, memWrite_unmapped v hr s, ?_⟩
    simp only [fetch8, Exec.look_bind, State.setPc_pc]
    exact Exec.bind_of_error (memRead_unmapped hr _)

end Sys2Proof.Machine
end

section
/-! PROOFS. What the header decides (20_memory.md R120-R122, R124): O9. -/

namespace Sys2Proof.Machine

/-- The type bytes of R120, each with its variant. -/
def typeRows : List (Nat × Variant) :=
  [(0x00, .romOnly), (0x08, .romOnly), (0x09, .romOnly), (0x01, .mbc1), (0x02, .mbc1), (0x03, .mbc1),
   (0x05, .mbc2), (0x06, .mbc2), (0x0F, .mbc3), (0x10, .mbc3), (0x11, .mbc3), (0x12, .mbc3), (0x13, .mbc3),
   (0x19, .mbc5 false), (0x1A, .mbc5 false), (0x1B, .mbc5 false), (0x1C, .mbc5 true), (0x1D, .mbc5 true),
   (0x1E, .mbc5 true)]

/-- The RAM-size codes of R124, each with its size. -/
def ramRows : List (Nat × Nat) :=
  [(0x00, 0), (0x01, 2048), (0x02, 8192), (0x03, 32768), (0x04, 131072), (0x05, 65536)]

theorem variantOf_eq_some_iff (t : Byte) (v : Variant) : variantOf t = some v ↔ (t.toNat, v) ∈ typeRows := by
  simp only [variantOf, typeRows, List.mem_cons, List.not_mem_nil, or_false, Prod.mk.injEq]
  cases v with
  | romOnly | mbc1 | mbc2 | mbc3 => split_ifs <;> simp <;> omega
  | mbc5 rumble => cases rumble <;> split_ifs <;> simp <;> omega

theorem variantOf_eq_none {t : Byte} (h : ∀ v, (t.toNat, v) ∉ typeRows) : variantOf t = none :=
  Option.eq_none_iff_forall_ne_some.mpr fun v hv => h v ((variantOf_eq_some_iff t v).mp hv)

theorem ramSizeOf_of_row {c : Byte} {n : Nat} (h : (c.toNat, n) ∈ ramRows) : ramSizeOf c = n := by
  simp only [ramRows, List.mem_cons, List.not_mem_nil, or_false, Prod.mk.injEq] at h
  obtain ⟨hc, rfl⟩ | ⟨hc, rfl⟩ | ⟨hc, rfl⟩ | ⟨hc, rfl⟩ | ⟨hc, rfl⟩ | ⟨hc, rfl⟩ := h <;>
    simp only [ramSizeOf, hc]

theorem ramSizeOf_of_no_row {c : Byte} (h : ∀ n, (c.toNat, n) ∉ ramRows) : ramSizeOf c = 0 := by
  unfold ramSizeOf
  split
  next => rfl
  next hc => exact absurd (by rw [hc]; decide) (h 2048)
  next hc => exact absurd (by rw [hc]; decide) (h 8192)
  next hc => exact absurd (by rw [hc]; decide) (h 32768)
  next hc => exact absurd (by rw [hc]; decide) (h 131072)
  next hc => exact absurd (by rw [hc]; decide) (h 65536)
  next => rfl

theorem construct_of_short {image : List Byte} (h : image.length < 0x150) (p : Params) :
    construct image p = .error .invalidAddress := by rw [construct, if_pos h]

theorem construct_of_variantOf {image : List Byte} (h : 0x150 ≤ image.length) (p : Params) :
    construct image p =
      (variantOf (imageByte image 0x147)).elim (.error .unsupportedCartridgeType)
        fun v => .ok (constructed v image p) := by
  rw [construct, if_neg (Nat.not_lt.mpr h)]
  cases variantOf (imageByte image 0x147) <;> rfl

/-- Settles O9: the table of the type byte gives the variant, and `constructed` the size of the table of RAM
codes. -/
theorem headerDecides : Obligations.HeaderDecides := by
  unfold Obligations.HeaderDecides
  refine fun image p => ⟨fun h => construct_of_short h p, fun h hnone => ?_, fun h v hrow => ?_⟩
  · rw [construct_of_variantOf h, variantOf_eq_none hnone]
    rfl
  · rw [construct_of_variantOf h, (variantOf_eq_some_iff _ v).mpr hrow]
    exact ⟨constructed v image p, rfl, Variant.variant_mapper v, fun _ => ramSizeOf_of_row, ramSizeOf_of_no_row⟩

end Sys2Proof.Machine
end

section
/-! PROOFS. The boot-status address and its latch (20_memory.md R105, 10_state.md R43): O27. -/

namespace Sys2Proof.Machine

theorem regionOf_0xFF50 : regionOf 0xFF50#16 = .bootStatus := rfl

theorem memWrite_0xFF50 (v : Byte) (s : State) :
    memWrite 0xFF50#16 v s = .ok () { s with bootOff := s.bootOff || decide (v ≠ 0x00#8) } := by
  rw [memWrite_bootStatus v regionOf_0xFF50]
  by_cases hv : v = 0x00#8 <;> simp [hv]

/-! ## Nothing clears it -/

/-- BOOT_OFF is set in the second state if it is in the first. -/
def BootLatched (s t : State) : Prop := s.bootOff = true → t.bootOff = true

theorem BootLatched.of_eq {s t : State} (h : t.bootOff = s.bootOff) : BootLatched s t := fun hs => h.trans hs

theorem ReadKeeps.bootOff {s t : State} (h : ReadKeeps s t) : t.bootOff = s.bootOff := by rw [h]

theorem keptByAccess_bootLatched : KeptByAccess BootLatched where
  refl _ := id
  trans _ _ _ h1 h2 := h2 ∘ h1
  read a s := .of_eq (memRead_keeps a s).bootOff
  write a v s := by
    obtain ⟨-, -, hlatch⟩ := memWrite_keeps a v s
    exact hlatch

theorem keptBy_bootLatched (p : Part) : KeptBy BootLatched p := by
  cases p with
  | reg r => exact fun s v => .of_eq (s.setReg_bootOff r v)
  | run => exact fun s v _ => .of_eq rfl
  | mark => exact fun s => .of_eq rfl
  | flags | sp | pc | ime => exact fun s v => .of_eq rfl

theorem step_bootLatched {s t : State} (h : step s = .next t) : BootLatched s t :=
  keeps_step keptByAccess_bootLatched (fun _ _ => .of_eq rfl) 
    (fun s why pc op => .of_eq (s.endRun_bootOff why pc op)) keptBy_bootLatched h

/-! ## Only a write to 0xFF50 sets it -/

theorem cramWrite_bootOff (en : Bool) (bank : Nat) (a : Word) (v : Byte) (s : State) :
    (stateOf (cramWrite en bank a v s)).bootOff = s.bootOff := by
  unfold cramWrite
  split
  · split <;> rfl
  · rfl

theorem cram2Write_bootOff (en : Bool) (a : Word) (v : Byte) (s : State) :
    (stateOf (cram2Write en a v s)).bootOff = s.bootOff := by
  unfold cram2Write
  split <;> rfl

theorem cartWrite_bootOff (a : Word) (v : Byte) (s : State) :
    (stateOf (cartWrite a v s)).bootOff = s.bootOff := by
  simp only [cartWrite]
  split
  · rfl
  · split
    · split <;> rfl
    · exact cramWrite_bootOff ..
  · split
    · rfl
    · exact cram2Write_bootOff ..
  · split
    · split <;> rfl
    · exact cramWrite_bootOff ..
  · split
    · rfl
    · exact cramWrite_bootOff ..
  · rfl
  · rfl
  · rfl

theorem memWrite_bootOff {a : Word} (ha : a ≠ 0xFF50#16) (v : Byte) (s : State) :
    (stateOf (memWrite a v s)).bootOff = s.bootOff := by
  simp only [memWrite]
  split
  next => exact cartWrite_bootOff a v s
  next => rfl
  next => exact cartWrite_bootOff a v s
  next => rfl
  next => rfl
  next => rfl
  next => rfl
  next hr => exact absurd (BitVec.eq_of_toNat_eq ((regionOf_bootStatus a).mp hr)) ha
  next => rfl

theorem SameStores.bootOff {s t : State} (h : SameStores s t) : t.bootOff = s.bootOff := by rw [h]

theorem Stored.bootOff {as : List Word} {s t : State} (h : Stored as s t) (has : 0xFF50#16 ∉ as) :
    t.bootOff = s.bootOff := by
  induction h with
  | same h => exact h.bootOff
  | write v ha => exact memWrite_bootOff (fun e => has (e ▸ ha)) v _
  | trans _ _ h1 h2 => exact h2.trans h1

theorem exec_bootOff_changed {i : Instr} {s t : State} (h : exec i s = .next t)
    (hboot : t.bootOff ≠ s.bootOff) : 0xFF50#16 ∈ storeAddresses i s := by
  by_contra hnone
  exact hboot ((exec_stored h).bootOff hnone)

/-- Settles O27: the latch by the window of the boot-status address, its permanence by what every step keeps,
its cause by where the instruction stores. -/
theorem bootLatch : Obligations.BootLatch := by
  unfold Obligations.BootLatch
  exact ⟨fun v s => ⟨memWrite_0xFF50 v s, memRead_bootStatus regionOf_0xFF50 s⟩,
    fun _ _ h => step_bootLatched h, fun _ _ _ h => exec_bootOff_changed h⟩

end Sys2Proof.Machine
end

section
/-! PROOFS. The encoding of each family, by the codes of its fields (30_encoding.md R182, R184-R187, R194). -/

namespace Sys2Proof.Machine

/-! ## Fields and codes -/

theorem fieldX_cases (op : Byte) :
    (fieldX op).toNat = 0 ∨ (fieldX op).toNat = 1 ∨ (fieldX op).toNat = 2 ∨ (fieldX op).toNat = 3 := by
  have hx : (fieldX op).toNat < 4 := (fieldX op).isLt
  omega

theorem value_ofBits (v : BitVec 3) : (Octal.ofBits v).value = v.toNat := by
  revert v
  decide

/-- A byte is its three fields side by side (R181). -/
theorem byteOf_fields {op : Byte} {n : Nat}
    (h : 64 * (fieldX op).toNat + 8 * (fieldY op).value + (fieldZ op).value = n) : byteOf n = op := by
  rw [← h, fieldX, fieldY, fieldZ, value_ofBits, value_ofBits]
  refine BitVec.eq_of_toNat_eq ?_
  have hop : op.toNat < 256 := op.isLt
  simp only [byteOf, BitVec.toNat_ofNat, BitVec.extractLsb'_toNat, Nat.shiftRight_eq_div_pow]
  omega

theorem codeOfOperand_ofCode (c : Octal) : codeOfOperand (Operand.ofCode c) = c.value := by
  cases c <;> rfl

theorem codeOfAlu_ofCode (c : Octal) : codeOfAlu (AluOp.ofCode c) = c.value := by cases c <;> rfl

theorem codeOfRot_ofCode (c : Octal) : codeOfRot (RotOp.ofCode c) = c.value := by cases c <;> rfl

theorem codeOfReg_of_ofCode {c : Octal} {r : Reg} (h : Operand.ofCode c = .reg r) :
    codeOfReg r = c.value := by
  rw [← codeOfOperand_ofCode, h, codeOfOperand]

theorem eq_o6_of_ofCode_memHl {c : Octal} (h : Operand.ofCode c = .memHl) : c = .o6 := by
  cases c <;> cases h
  rfl

/-! ## The families -/

theorem encode_ldRegReg (dst src : Reg) :
    encode (Instr.ldRegReg dst src) = [byteOf (0x40 + 8 * codeOfReg dst + codeOfReg src)] := by
  cases dst <;> cases src <;> rfl

theorem encode_ldRegMemHl (r : Reg) : encode (Instr.ldRegMemHl r) = [byteOf (0x46 + 8 * codeOfReg r)] := by
  cases r <;> rfl

theorem encode_ldMemHlReg (r : Reg) : encode (Instr.ldMemHlReg r) = [byteOf (0x70 + codeOfReg r)] := by
  cases r <;> rfl

theorem encode_ldRegD8 (r : Reg) (n : Byte) :
    encode (Instr.ldRegD8 r n) = [byteOf (0x06 + 8 * codeOfReg r), n] := by cases r <;> rfl

theorem encode_aluOperand (op : AluOp) (o : Operand) :
    encode (Instr.aluOperand op o) = [byteOf (0x80 + 8 * codeOfAlu op + codeOfOperand o)] := by
  rcases o with r | _
  · cases r <;> cases op <;> rfl
  · cases op <;> rfl

theorem encode_aluD8 (op : AluOp) (n : Byte) :
    encode (Instr.aluD8 op n) = [byteOf (0xC6 + 8 * codeOfAlu op), n] := by cases op <;> rfl

theorem encode_incOperand (o : Operand) :
    encode (Instr.incOperand o) = [byteOf (0x04 + 8 * codeOfOperand o)] := by
  rcases o with r | _
  · cases r <;> rfl
  · rfl

theorem encode_decOperand (o : Operand) :
    encode (Instr.decOperand o) = [byteOf (0x05 + 8 * codeOfOperand o)] := by
  rcases o with r | _
  · cases r <;> rfl
  · rfl

theorem encode_ldPairD16 (p : Pair) (v : Word) :
    encode (Instr.ldPairD16 p v) = [byteOf (0x01 + 16 * codeOfPair p), lowByte v, highByte v] := by
  cases p <;> rfl

theorem encode_addHlPair (p : Pair) : encode (Instr.addHlPair p) = [byteOf (0x09 + 16 * codeOfPair p)] := by
  cases p <;> rfl

theorem encode_incPair (p : Pair) : encode (Instr.incPair p) = [byteOf (0x03 + 16 * codeOfPair p)] := by
  cases p <;> rfl

theorem encode_decPair (p : Pair) : encode (Instr.decPair p) = [byteOf (0x0B + 16 * codeOfPair p)] := by
  cases p <;> rfl

theorem encode_push (p : StackPair) : encode (Instr.push p) = [byteOf (0xC5 + 16 * codeOfStackPair p)] := by
  cases p <;> rfl

theorem encode_pop (p : StackPair) : encode (Instr.pop p) = [byteOf (0xC1 + 16 * codeOfStackPair p)] := by
  cases p <;> rfl

theorem encode_jpCond (cc : Cond) (a : Word) :
    encode (Instr.jpCond cc a) = [byteOf (0xC2 + 8 * codeOfCond cc), lowByte a, highByte a] := by
  cases cc <;> rfl

theorem encode_jrCond (cc : Cond) (e : Byte) :
    encode (Instr.jrCond cc e) = [byteOf (0x20 + 8 * codeOfCond cc), e] := by cases cc <;> rfl

theorem encode_callCond (cc : Cond) (a : Word) :
    encode (Instr.callCond cc a) = [byteOf (0xC4 + 8 * codeOfCond cc), lowByte a, highByte a] := by
  cases cc <;> rfl

theorem encode_retCond (cc : Cond) : encode (Instr.retCond cc) = [byteOf (0xC0 + 8 * codeOfCond cc)] := by
  cases cc <;> rfl

theorem encode_rst (t : Octal) : encode (Instr.rst t) = [byteOf (0xC7 + 8 * t.value)] := by cases t <;> rfl

theorem encode_rotOperand (op : RotOp) (o : Operand) :
    encode (Instr.rotOperand op o) = [0xCB#8, byteOf (8 * codeOfRot op + codeOfOperand o)] := by
  rcases o with r | _
  · cases r <;> cases op <;> rfl
  · cases op <;> rfl

theorem encode_bit (b : Octal) (o : Operand) :
    encode (Instr.bit b o) = [0xCB#8, byteOf (0x40 + 8 * b.value + codeOfOperand o)] := by
  rcases o with r | _
  · cases r <;> cases b <;> rfl
  · cases b <;> rfl

theorem encode_res (b : Octal) (o : Operand) :
    encode (Instr.res b o) = [0xCB#8, byteOf (0x80 + 8 * b.value + codeOfOperand o)] := by
  rcases o with r | _
  · cases r <;> cases b <;> rfl
  · cases b <;> rfl

theorem encode_set (b : Octal) (o : Operand) :
    encode (Instr.set b o) = [0xCB#8, byteOf (0xC0 + 8 * b.value + codeOfOperand o)] := by
  rcases o with r | _
  · cases r <;> cases b <;> rfl
  · cases b <;> rfl

end Sys2Proof.Machine
end

section
/-! PROOFS. Every row of the decoder is the encoding of the instruction it gives, and the round trips between
bytes and instructions (30_encoding.md R180, R191-R196): O1 to O4. -/

namespace Sys2Proof.Machine

/-! ## The decoder's rows -/

/-- The first byte, with the bytes its shape asks for, is the encoding of the instruction they give. -/
def Encodes (op : Byte) : Shape → Prop
  | .done i => encode i = [op]
  | .imm8 f => ∀ n, encode (f n) = [op, n]
  | .imm16 f => ∀ v, encode (f v) = [op, lowByte v, highByte v]
  | .extended => ∀ cb, encode (decodeExtended cb) = [op, cb]

theorem encode_decodeExtended (cb : Byte) : encode (decodeExtended cb) = [0xCB#8, cb] := by
  have hcb {n : Nat} (h : 64 * (fieldX cb).toNat + 8 * (fieldY cb).value + (fieldZ cb).value = n) :
      [0xCB#8, byteOf n] = [0xCB#8, cb] := by rw [byteOf_fields h]
  obtain hx | hx | hx | hx := fieldX_cases cb <;> simp only [decodeExtended, hx]
  · rw [encode_rotOperand, codeOfRot_ofCode, codeOfOperand_ofCode]
    exact hcb (by omega)
  · rw [encode_bit, codeOfOperand_ofCode]
    exact hcb (by omega)
  · rw [encode_res, codeOfOperand_ofCode]
    exact hcb (by omega)
  · rw [encode_set, codeOfOperand_ofCode]
    exact hcb (by omega)

theorem encodes_decodeX0 (y z : Octal) : Encodes (byteOf (z.value + 8 * y.value)) (decodeX0 y z) := by
  cases z with
  | o0 =>
    cases y with
    | o0 => exact rfl
    | o1 | o2 | o3 => exact fun _ => rfl
    | o4 | o5 | o6 | o7 => exact encode_jrCond _
  | o1 =>
    cases y with
    | o0 | o2 | o4 | o6 => exact encode_ldPairD16 _
    | o1 | o3 | o5 | o7 => exact encode_addHlPair _
  | o2 => cases y <;> exact rfl
  | o3 =>
    cases y with
    | o0 | o2 | o4 | o6 => exact encode_incPair _
    | o1 | o3 | o5 | o7 => exact encode_decPair _
  | o4 => exact codeOfOperand_ofCode y ▸ encode_incOperand _
  | o5 => exact codeOfOperand_ofCode y ▸ encode_decOperand _
  | o6 =>
    cases y with
    | o6 => exact fun _ => rfl
    | o0 | o1 | o2 | o3 | o4 | o5 | o7 => exact encode_ldRegD8 _
  | o7 => cases y <;> exact rfl

theorem encodes_decodeX1 (y z : Octal) : Encodes (byteOf (0x40 + 8 * y.value + z.value)) (decodeX1 y z) := by
  unfold decodeX1
  split
  next hy hz =>
    rw [← codeOfReg_of_ofCode hy, ← codeOfReg_of_ofCode hz]
    exact encode_ldRegReg ..
  next hy hz =>
    rw [← codeOfReg_of_ofCode hy, eq_o6_of_ofCode_memHl hz, Nat.add_right_comm]
    exact encode_ldRegMemHl _
  next hy hz =>
    rw [← codeOfReg_of_ofCode hz, eq_o6_of_ofCode_memHl hy]
    exact encode_ldMemHlReg _
  next hy hz =>
    rw [eq_o6_of_ofCode_memHl hy, eq_o6_of_ofCode_memHl hz]
    exact rfl

theorem encodes_decodeX3 (y z : Octal) :
    Encodes (byteOf (0xC0 + z.value + 8 * y.value)) (decodeX3 y z) := by
  cases z with
  | o0 =>
    cases y with
    | o0 | o1 | o2 | o3 => exact encode_retCond _
    | o4 | o5 | o6 | o7 => exact fun _ => rfl
  | o1 =>
    cases y with
    | o0 | o2 | o4 | o6 => exact encode_pop _
    | o1 | o3 | o5 | o7 => exact rfl
  | o2 =>
    cases y with
    | o0 | o1 | o2 | o3 => exact encode_jpCond _
    | o4 | o6 => exact rfl
    | o5 | o7 => exact fun _ => rfl
  | o3 =>
    cases y with
    | o0 => exact fun _ => rfl
    | o1 => exact encode_decodeExtended
    | o2 | o3 | o4 | o5 | o6 | o7 => exact rfl
  | o4 =>
    cases y with
    | o0 | o1 | o2 | o3 => exact encode_callCond _
    | o4 | o5 | o6 | o7 => exact rfl
  | o5 =>
    cases y with
    | o0 | o2 | o4 | o6 => exact encode_push _
    | o1 => exact fun _ => rfl
    | o3 | o5 | o7 => exact rfl
  | o6 => exact codeOfAlu_ofCode y ▸ encode_aluD8 _
  | o7 => exact encode_rst y

theorem encodes_decodeOp (op : Byte) : Encodes op (decodeOp op) := by
  have hop {n : Nat} {sh : Shape} (h : Encodes (byteOf n) sh)
      (hn : 64 * (fieldX op).toNat + 8 * (fieldY op).value + (fieldZ op).value = n) : Encodes op sh := by
    rwa [byteOf_fields hn] at h
  obtain hx | hx | hx | hx := fieldX_cases op <;> simp only [decodeOp, hx]
  · exact hop (encodes_decodeX0 ..) (by omega)
  · exact hop (encodes_decodeX1 ..) (by omega)
  · refine hop (n := 0x80 + 8 * (fieldY op).value + (fieldZ op).value) ?_ (by omega)
    rw [← codeOfAlu_ofCode, ← codeOfOperand_ofCode]
    exact encode_aluOperand ..
  · exact hop (encodes_decodeX3 ..) (by omega)

/-! ## What follows a first byte -/

/-- The bytes that a first byte of this shape takes after itself, and the instruction they give. -/
inductive Takes : Shape → List Byte → Instr → Prop where
  | done (i : Instr) : Takes (.done i) [] i
  | imm8 (f : Byte → Instr) {n : Byte} {i : Instr} (h : f n = i) : Takes (.imm8 f) [n] i
  | imm16 (f : Word → Instr) {lo hi : Byte} {i : Instr} (h : f (joinBytes hi lo) = i) :
    Takes (.imm16 f) [lo, hi] i
  | extended {cb : Byte} {i : Instr} (h : decodeExtended cb = i) : Takes .extended [cb] i

/-- The length of an instruction whose first byte has this shape (R180). -/
def shapeLength : Shape → Nat
  | .done _ => 1
  | .imm8 _ => 2
  | .imm16 _ => 3
  | .extended => 2

namespace Takes

variable {sh : Shape} {op : Byte} {tail : List Byte} {i : Instr}

theorem length_tail (h : Takes sh tail i) : tail.length + 1 = shapeLength sh := by cases h <;> rfl

theorem length_tail_le (h : Takes sh tail i) : tail.length ≤ 2 := by cases h <;> simp

theorem of_starts (h : Starts i sh) : ∃ tail, Takes sh tail i := by
  cases sh with
  | done j => exact ⟨[], h ▸ .done j⟩
  | imm8 f => exact ⟨_, .imm8 f h⟩
  | imm16 f =>
    obtain ⟨v, hv⟩ := h
    exact ⟨[lowByte v, highByte v], .imm16 f ((congrArg f (joinBytes_high_low v)).trans hv)⟩
  | extended => exact ⟨_, .extended h⟩

/-- Three bytes are enough for every shape. -/
theorem exists_of_two_bytes (sh : Shape) (b1 b2 : Byte) (rest : List Byte) :
    ∃ tail i after, Takes sh tail i ∧ b1 :: b2 :: rest = tail ++ after := by
  cases sh with
  | done i => exact ⟨[], i, _, .done i, rfl⟩
  | imm8 f => exact ⟨[b1], _, _, .imm8 f rfl, rfl⟩
  | imm16 f => exact ⟨[b1, b2], _, _, .imm16 f rfl, rfl⟩
  | extended => exact ⟨[b1], _, _, .extended rfl, rfl⟩

theorem decode (h : Takes (decodeOp op) tail i) (rest : List Byte) :
    decode (op :: tail ++ rest) = .ok (i, rest) := by
  generalize hsh : decodeOp op = sh at h
  cases h with
  | done i => simp only [Sys2Proof.decode, hsh, List.cons_append, List.nil_append]
  | imm8 f h | imm16 f h | extended h =>
    simp only [Sys2Proof.decode, hsh, List.cons_append, List.nil_append, h]

theorem encode_of_encodes (h : Takes sh tail i) (hop : Encodes op sh) : encode i = op :: tail := by
  cases h with
  | done i => exact hop
  | imm8 f h => exact h ▸ hop _
  | imm16 f h => rw [← h, hop, lowByte_joinBytes, highByte_joinBytes]
  | extended h => exact h ▸ hop _

theorem encode (h : Takes (decodeOp op) tail i) : encode i = op :: tail :=
  h.encode_of_encodes (encodes_decodeOp op)

theorem length (h : Takes (decodeOp op) tail i) : i.length = tail.length + 1 := by
  rw [Instr.length, h.encode, List.length_cons]

end Takes

/-- Whatever the decoder reads is a first byte and the bytes it takes. -/
theorem takes_of_decode {bytes rest : List Byte} {i : Instr} (h : decode bytes = .ok (i, rest)) :
    ∃ op tail, bytes = op :: tail ++ rest ∧ Takes (decodeOp op) tail i := by
  unfold decode at h
  split at h
  next => cases h
  next op bytes =>
    refine ⟨op, ?_⟩
    generalize decodeOp op = sh at h
    cases sh with
    | done j => cases h; exact ⟨[], rfl, .done _⟩
    | imm8 f =>
      rcases bytes with _ | ⟨n, bytes⟩ <;> cases h
      exact ⟨[n], rfl, .imm8 f rfl⟩
    | imm16 f =>
      rcases bytes with _ | ⟨lo, _ | ⟨hi, bytes⟩⟩ <;> cases h
      exact ⟨[lo, hi], rfl, .imm16 f rfl⟩
    | extended =>
      rcases bytes with _ | ⟨cb, bytes⟩ <;> cases h
      exact ⟨[cb], rfl, .extended rfl⟩

/-! ## Both directions -/

theorem takes_encode {i : Instr} (h : i.wellFormed = true) :
    ∃ op tail, encode i = op :: tail ∧ Takes (decodeOp op) tail i := by
  obtain ⟨tail, htail⟩ := Takes.of_starts (starts_firstByte h)
  exact ⟨_, tail, htail.encode, htail⟩

theorem wellFormed_decodeExtended (cb : Byte) : (decodeExtended cb).wellFormed = true := by
  unfold decodeExtended
  split
  all_goals cases fieldY cb <;> cases fieldZ cb <;> rfl

theorem decodeOp_0xCB : decodeOp 0xCB#8 = .extended := rfl

/-- What a first byte takes is never PREFIX_CB: its first byte 0xCB takes an extended instruction. -/
theorem Takes.wellFormed {op : Byte} {tail : List Byte} {i : Instr} (h : Takes (decodeOp op) tail i) :
    i.wellFormed = true := by
  by_contra hi
  obtain ⟨cb, rfl⟩ := eq_prefixCb_of_not_wellFormed (Bool.eq_false_iff.mpr hi)
  obtain ⟨rfl, rfl⟩ : 0xCB#8 = op ∧ [cb] = tail := List.cons.inj h.encode
  rw [decodeOp_0xCB] at h
  cases h with
  | extended hcb => exact hi (hcb ▸ wellFormed_decodeExtended cb)

/-- Settles O2: the first byte of an encoding takes the bytes after it, which decoding reads back. -/
theorem decodeUndoesEncode : Obligations.DecodeUndoesEncode := by
  unfold Obligations.DecodeUndoesEncode
  intro i rest hi
  obtain ⟨op, tail, hencode, htakes⟩ := takes_encode hi
  rw [hencode]
  exact htakes.decode rest

theorem encode_of_decode {bytes rest : List Byte} {i : Instr} (h : decode bytes = .ok (i, rest)) :
    encode i ++ rest = bytes := by
  obtain ⟨op, tail, rfl, htakes⟩ := takes_of_decode h
  rw [htakes.encode]

theorem wellFormed_of_decode {bytes rest : List Byte} {i : Instr} (h : decode bytes = .ok (i, rest)) :
    i.wellFormed = true := by
  obtain ⟨op, tail, -, htakes⟩ := takes_of_decode h
  exact htakes.wellFormed

/-- Settles O3: what the decoder reads is a first byte with the bytes it takes, a row of the encoder. -/
theorem encodeUndoesDecode : Obligations.EncodeUndoesDecode := by
  unfold Obligations.EncodeUndoesDecode
  exact fun _ _ _ h => ⟨wellFormed_of_decode h, encode_of_decode h⟩

/-! ## Lengths -/

theorem length_of_decode {bytes : List Byte} {i : Instr} (h : decode bytes = .ok (i, [])) :
    i.length = bytes.length := by
  rw [Instr.length, ← encode_of_decode h, List.append_nil]

/-- The table's `length` column, byte by byte. -/
theorem lengthOfOpcode_eq (op : Byte) : lengthOfOpcode op = shapeLength (decodeOp op) := by
  revert op
  decide

theorem Takes.length_eq {op : Byte} {tail : List Byte} {i : Instr} (h : Takes (decodeOp op) tail i) :
    i.length = lengthOfOpcode op := by
  rw [h.length, h.length_tail, lengthOfOpcode_eq]

/-- Settles O4: two bytes are enough for what any first byte takes. -/
theorem decodingIsTotal : Obligations.DecodingIsTotal := by
  unfold Obligations.DecodingIsTotal
  intro op b1 b2 rest
  obtain ⟨tail, i, after, htakes, hbytes⟩ := Takes.exists_of_two_bytes (decodeOp op) b1 b2 rest
  refine ⟨i, after, ?_, htakes.length_eq, ?_⟩
  · rw [hbytes]
    exact htakes.decode after
  · have hlen := congrArg List.length hbytes
    have hi := htakes.length
    have htail := htakes.length_tail_le
    simp only [List.length_cons, List.length_append] at hlen
    omega

/-- Settles O1: the decoder's rows, run on the sixteen words. -/
theorem sampleWordsDecode : Obligations.SampleWordsDecode := by
  unfold Obligations.SampleWordsDecode
  exact ⟨rfl, rfl, rfl, rfl, rfl, rfl, rfl, rfl, rfl, rfl, rfl, rfl, rfl, rfl, rfl, rfl⟩

end Sys2Proof.Machine
end

section
/-! PROOFS. The operand of a 3-bit code (30_encoding.md R184): O7. -/

namespace Sys2Proof.Machine

theorem exists_reg_of_code_ne_o6 {c : Octal} (hc : c ≠ .o6) :
    ∃ r, Operand.ofCode c = .reg r ∧ codeOfReg r = c.value := by
  cases ho : Operand.ofCode c with
  | reg r => exact ⟨r, rfl, codeOfReg_of_ofCode ho⟩
  | memHl => exact absurd (eq_o6_of_ofCode_memHl ho) hc

/-- Settles O7: the accesses are their definitions, a register reads back as written, and the codes are the
table's. -/
theorem operandAccess : Obligations.OperandAccess := by
  unfold Obligations.OperandAccess
  exact fun r v s => ⟨rfl, rfl, rfl, rfl, fun q => s.getReg_setReg r q v, rfl,
    fun _ => exists_reg_of_code_ne_o6⟩

end Sys2Proof.Machine
end

section
/-! PROOFS. The instruction stream (00_scope.md R14, 10_state.md R39): a step runs the instruction that the
bytes at PC decode to (30_encoding.md R190): O22. -/

namespace Sys2Proof.Machine

variable {s t : State}

/-! ## Reads do not depend on PC -/

/-- The result of a computation with PC of the state it leaves set to another value. -/
def pcResult {α : Type} (p : Word) : EStateM.Result Stop State α → EStateM.Result Stop State α
  | .ok v s => .ok v (s.setPc p)
  | .error why s => .error why (s.setPc p)

theorem eq_pcResult_ite {α : Type} {c : Prop} [Decidable c] {p : Word}
    {x x' y y' : EStateM.Result Stop State α} (hx : x' = pcResult p x) (hy : y' = pcResult p y) :
    (if c then x' else y') = pcResult p (if c then x else y) := by
  split
  · exact hx
  · exact hy

theorem romRead_setPc (a : Word) (n : Nat) (s : State) (p : Word) :
    romRead a n (s.setPc p) = pcResult p (romRead a n s) := eq_pcResult_ite rfl rfl

theorem cramRead_setPc (en : Bool) (bank : Nat) (a : Word) (s : State) (p : Word) :
    cramRead en bank a (s.setPc p) = pcResult p (cramRead en bank a s) :=
  eq_pcResult_ite (eq_pcResult_ite rfl rfl) rfl

theorem cram2Read_setPc (en : Bool) (a : Word) (s : State) (p : Word) :
    cram2Read en a (s.setPc p) = pcResult p (cram2Read en a s) := eq_pcResult_ite rfl rfl

theorem unspecifiedRead_setPc (a : Word) (s : State) (p : Word) :
    unspecifiedRead a (s.setPc p) = pcResult p (unspecifiedRead a s) := by
  unfold unspecifiedRead
  split
  · exact romRead_setPc ..
  · rfl

theorem cartRead_setPc (a : Word) (s : State) (p : Word) :
    cartRead a (s.setPc p) = pcResult p (cartRead a s) := by
  simp only [cartRead, State.setPc_mapper, State.setPc_cfg]
  split
  · exact eq_pcResult_ite (romRead_setPc ..) rfl
  · exact eq_pcResult_ite (romRead_setPc ..) (cramRead_setPc ..)
  · exact eq_pcResult_ite (romRead_setPc ..) (cram2Read_setPc ..)
  · exact eq_pcResult_ite (romRead_setPc ..) (cramRead_setPc ..)
  · exact eq_pcResult_ite (romRead_setPc ..) (cramRead_setPc ..)
  all_goals exact unspecifiedRead_setPc ..

theorem memRead_setPc (a : Word) (s : State) (p : Word) :
    memRead a (s.setPc p) = pcResult p (memRead a s) := by
  simp only [memRead]
  cases regionOf a with
  | cartRom => exact eq_pcResult_ite rfl (cartRead_setPc ..)
  | cartRam => exact cartRead_setPc ..
  | forwarded =>
    simp only [ioRead, State.setPc_ioAnswers]
    split <;> rfl
  | vram | wram | echo | oam | unmapped | bootStatus => rfl

theorem State.peek_setPc (s : State) (a p : Word) : (s.setPc p).peek a = s.peek a := by
  simp only [State.peek, memRead_setPc]
  cases memRead a s <;> rfl

theorem memRead_of_peek {a : Word} {v : Byte} (h : s.peek a = some v) : memRead a s = .ok v s := by
  unfold State.peek at h
  split at h
  next => cases h
  next hr =>
    split at h
    next w t hread =>
      cases h
      rw [hread, memRead_ok_of_not_forwarded hr hread]
    next => cases h

/-! ## Fetching -/

theorem fetch8_of_ok {v : Byte} (h : memRead s.pc s = .ok v t) : fetch8 s = .ok v (t.setPc (t.pc + 1#16)) := by
  rw [fetch8, Exec.look_bind, Exec.bind_of_ok h, Exec.update_bind, Exec.pure_apply]

theorem fetch8_of_error {why : Stop} (h : memRead s.pc s = .error why t) : fetch8 s = .error why t := by
  rw [fetch8, Exec.look_bind, Exec.bind_of_error h]

/-- What fetching `n` bytes may change: PC, which moves past them, and the two fields that carry IO_PORT. -/
def FetchKeeps (n : Nat) (s t : State) : Prop :=
  t = { s with pc := s.pc + BitVec.ofNat 16 n, ioAnswers := t.ioAnswers, ioLog := t.ioLog }

theorem word_add_one_add (a : Word) (n : Nat) : a + 1#16 + BitVec.ofNat 16 n = a + BitVec.ofNat 16 (n + 1) := by
  rw [BitVec.add_assoc, ← BitVec.ofNat_add, Nat.add_comm]

theorem FetchKeeps.zero (s : State) : FetchKeeps 0 s s := by
  rw [FetchKeeps, BitVec.add_zero]

theorem FetchKeeps.succ {n : Nat} {u : State} (h1 : FetchKeeps 1 s t) (h2 : FetchKeeps n t u) :
    FetchKeeps (n + 1) s u := by
  rw [FetchKeeps, h1] at h2
  rw [FetchKeeps, ← word_add_one_add s.pc n]
  exact h2

theorem fetch8_keeps {v : Byte} (h : fetch8 s = .ok v t) : FetchKeeps 1 s t := by
  cases hread : memRead s.pc s with
  | ok w u =>
    rw [fetch8_of_ok hread] at h
    cases h
    rw [memRead_ok hread]
    rfl
  | error why u =>
    rw [fetch8_of_error hread] at h
    cases h

theorem fetch8_of_peek {v : Byte} (h : s.peek s.pc = some v) : fetch8 s = .ok v (s.setPc (s.pc + 1#16)) :=
  fetch8_of_ok (memRead_of_peek h)

theorem fetchBytes_cons_ok {n : Nat} {v : Byte} {vs : List Byte} :
    fetchBytes (n + 1) s = .ok (v :: vs) t ↔ ∃ s1, fetch8 s = .ok v s1 ∧ fetchBytes n s1 = .ok vs t := by
  constructor
  · intro h
    cases h1 : fetch8 s with
    | error why s1 => rw [fetchBytes, Exec.bind_of_error h1] at h; cases h
    | ok w s1 =>
      rw [fetchBytes, Exec.bind_of_ok h1] at h
      cases h2 : fetchBytes n s1 with
      | error why s2 => rw [Exec.bind_of_error h2] at h; cases h
      | ok ws s2 =>
        rw [Exec.bind_of_ok h2] at h
        cases h
        exact ⟨s1, rfl, h2⟩
  · rintro ⟨s1, h1, h2⟩
    rw [fetchBytes, Exec.bind_of_ok h1, Exec.bind_of_ok h2, Exec.pure_apply]

theorem fetchBytes_keeps {vs : List Byte} (h : fetchBytes vs.length s = .ok vs t) :
    FetchKeeps vs.length s t := by
  induction vs generalizing s with
  | nil =>
    cases h
    exact .zero _
  | cons v vs ih =>
    obtain ⟨s1, h1, h2⟩ := fetchBytes_cons_ok.mp h
    exact (fetch8_keeps h1).succ (ih h2)

/-- Bytes that memory holds are fetched with nothing but PC moved. -/
theorem fetchBytes_of_peek {vs : List Byte}
    (h : ∀ k v, vs[k]? = some v → s.peek (s.pc + BitVec.ofNat 16 k) = some v) :
    fetchBytes vs.length s = .ok vs (s.setPc (s.pc + BitVec.ofNat 16 vs.length)) := by
  induction vs generalizing s with
  | nil => simp [fetchBytes, State.setPc]
  | cons v vs ih =>
    have hv : s.peek s.pc = some v := by simpa using h 0 v rfl
    have hvs (k : Nat) (w : Byte) (hk : vs[k]? = some w) :
        (s.setPc (s.pc + 1#16)).peek (s.pc + 1#16 + BitVec.ofNat 16 k) = some w := by
      rw [State.peek_setPc, word_add_one_add]
      exact h (k + 1) w hk
    rw [List.length_cons, ← word_add_one_add s.pc vs.length]
    exact fetchBytes_cons_ok.mpr ⟨_, fetch8_of_peek hv, ih hvs⟩

/-- The bytes a first byte takes, fetched, make the instruction that they decode to. -/
theorem fetchRest_of_takes {op : Byte} {tail : List Byte} {i : Instr} (h : Takes (decodeOp op) tail i)
    (hfetch : fetchBytes tail.length s = .ok tail t) : fetchRest op s = .ok i t := by
  unfold fetchRest
  generalize decodeOp op = sh at h
  cases h with
  | done i => cases hfetch; rfl
  | imm8 f h =>
    obtain ⟨s1, h1, h2⟩ := fetchBytes_cons_ok.mp hfetch
    cases h2
    simp only [Exec.bind_of_ok h1, Exec.pure_apply, h]
  | imm16 f h =>
    obtain ⟨s1, h1, h2⟩ := fetchBytes_cons_ok.mp hfetch
    obtain ⟨s2, h2, h3⟩ := fetchBytes_cons_ok.mp h2
    cases h3
    have h16 : fetch16 s = .ok _ t := (Exec.bind_of_ok h1).trans (Exec.bind_of_ok h2)
    simp only [Exec.bind_of_ok h16, Exec.pure_apply, h]
  | extended h =>
    obtain ⟨s1, h1, h2⟩ := fetchBytes_cons_ok.mp hfetch
    cases h2
    simp only [Exec.bind_of_ok h1, Exec.pure_apply, h]

theorem step_of_fetchBytes {bytes : List Byte} {i : Instr} (hr : s.isRunning = true)
    (hdecode : decode bytes = .ok (i, [])) (hfetch : fetchBytes bytes.length s = .ok bytes t) :
    step s = exec i t := by
  obtain ⟨op, tail, rfl, htakes⟩ := takes_of_decode hdecode
  rw [List.append_nil] at hfetch
  obtain ⟨s1, h1, h2⟩ := fetchBytes_cons_ok.mp hfetch
  exact step_of_fetched hr h1 (fetchRest_of_takes htakes h2)

/-- Settles O22: the fetch of a step is the fetch of the bytes it decodes, one by one. -/
theorem stepRunsDecodedInstruction : Obligations.StepRunsDecodedInstruction := by
  unfold Obligations.StepRunsDecodedInstruction
  intro s bytes i hr hdecode
  rw [length_of_decode hdecode]
  exact ⟨fun t hfetch => ⟨step_of_fetchBytes hr hdecode hfetch, fetchBytes_keeps hfetch⟩,
    fun hmem => step_of_fetchBytes hr hdecode (fetchBytes_of_peek hmem)⟩

end Sys2Proof.Machine
end

section
/-! PROOFS. Which access stops (60_exceptions.md R431): a read and a write answer what the tables `readStop`
and `writeStop` say. -/

namespace Sys2Proof.Machine

variable {a : Word} {v : Byte} {s : State}

/-- A result is the one a table of stops gives: a stop with the state unchanged, or a value. -/
inductive Answers {α : Type} (s : State) : Option Stop → EStateM.Result Stop State α → Prop where
  | stops (why : Stop) : Answers s (some why) (.error why s)
  | gives (v : α) (t : State) : Answers s none (.ok v t)

namespace Answers

variable {α : Type} {stop stop' : Option Stop} {x x' : EStateM.Result Stop State α}

theorem ite {c : Prop} [Decidable c] (h : Answers s stop x) (h' : Answers s stop' x') :
    Answers s (if c then stop else stop') (if c then x else x') := by
  split
  · exact h
  · exact h'

theorem of_stop_eq {why : Stop} (h : Answers s stop x) (hs : stop = some why) : x = .error why s := by
  cases h with
  | stops => cases hs; rfl
  | gives => cases hs

theorem of_stop_eq_none (h : Answers s stop x) (hs : stop = none) : ∃ v t, x = .ok v t := by
  cases h with
  | stops => cases hs
  | gives v t => exact ⟨v, t, rfl⟩

end Answers

/-! ## The tables, by the controller -/

variable {en : Bool} {bank : Nat}

theorem State.readStop_cram (h : s.cramBank = some (en, bank)) (ha : 0xA000 ≤ a.toNat ∧ a.toNat ≤ 0xBFFF) :
    s.readStop a = s.cramStop en bank a := by
  rw [State.readStop, if_neg (by omega), if_pos ha]
  unfold State.cramBank at h
  split at h <;> cases h <;> simp only [*]

theorem State.writeStop_cram (h : s.cramBank = some (en, bank)) (ha : 0xA000 ≤ a.toNat ∧ a.toNat ≤ 0xBFFF)
    (v : Byte) : s.writeStop a v = s.cramStop en bank a := by
  rw [State.writeStop, if_neg (by omega), if_pos ha]
  unfold State.cramBank at h
  split at h <;> cases h <;> simp only [*]

theorem State.readStop_refused (h : s.refusesMbc) (ha : 0xA000 ≤ a.toNat ∧ a.toNat ≤ 0xBFFF) :
    s.readStop a = some .refused := by
  obtain ⟨hmode, hmbc1, hromOnly⟩ := h
  rw [State.readStop, if_neg (by omega), if_pos ha]
  cases hm : s.mapper with
  | romOnly => exact absurd hm hromOnly
  | mbc1 m => exact absurd hm (hmbc1 m)
  | mbc2 | mbc3 | mbc5 => simp only [hmode]

theorem State.writeStop_refused (h : s.refusesMbc)
    (ha : a.toNat ≤ 0x7FFF ∨ (0xA000 ≤ a.toNat ∧ a.toNat ≤ 0xBFFF)) (v : Byte) :
    s.writeStop a v = some .refused := by
  obtain ⟨hmode, hmbc1, hromOnly⟩ := h
  unfold State.writeStop
  cases hm : s.mapper with
  | romOnly => exact absurd hm hromOnly
  | mbc1 m => exact absurd hm (hmbc1 m)
  | mbc2 | mbc3 | mbc5 =>
    simp only [hmode]
    split
    · rfl
    · rw [if_pos (by omega)]

/-- An access to CRAM gives a value where RAM is disabled or the image has the cell. -/
theorem answers_cramStop {α : Type} (v w : α) (t : State) :
    Answers s (s.cramStop en bank a)
      (if en = false then .ok v s
      else if cramOffset bank a < s.cramSize then .ok w t
      else .error (.raised .invalidAddress a none) s) := by
  rw [State.cramStop]
  cases en with
  | false => exact .gives ..
  | true =>
    by_cases hlt : cramOffset bank a < s.cramSize
    · rw [if_neg (by omega), if_neg (by decide), if_pos hlt]
      exact .gives ..
    · rw [if_pos ⟨rfl, by omega⟩, if_neg (by decide), if_neg hlt]
      exact .stops _

theorem answers_cramRead (en : Bool) (bank : Nat) (a : Word) (s : State) :
    Answers s (s.cramStop en bank a) (cramRead en bank a s) := by
  rw [cramRead_eq]
  exact answers_cramStop ..

theorem answers_cramWrite (en : Bool) (bank : Nat) (a : Word) (v : Byte) (s : State) :
    Answers s (s.cramStop en bank a) (cramWrite en bank a v s) := by
  rw [cramWrite_eq]
  exact answers_cramStop ..

/-! ## Reads -/

theorem answers_memRead_cartRom (ha : a.toNat ≤ 0x7FFF) (s : State) :
    Answers s (s.readStop a) (memRead a s) := by
  rw [State.readStop, if_pos ha, memRead_eq_ite]
  refine .ite (.gives ..) ?_
  rw [if_pos ha, cartRead_rom ha, romRead_eq]
  by_cases hlt : romOffset s.shownRomBank a < s.romSize
  · rw [if_pos hlt, if_neg (by omega)]
    exact .gives ..
  · rw [if_neg hlt, if_pos (by omega)]
    exact .stops _

theorem answers_memRead_cartRam (ha : 0xA000 ≤ a.toNat ∧ a.toNat ≤ 0xBFFF) (s : State) :
    Answers s (s.readStop a) (memRead a s) := by
  have hr := (regionOf_cartRam a).mpr ha
  cases hbank : s.cramBank with
  | some p =>
    rw [State.readStop_cram hbank ha, memRead_cartRam hr, cartRead_cram hbank (by omega)]
    exact answers_cramRead ..
  | none =>
    obtain hm | hrefuse | ⟨m, hm, hmode⟩ := State.cramBank_eq_none hbank
    · rw [memRead_cartRam hr, cartRead_romOnly hm (by omega), State.readStop, if_neg (by omega), if_pos ha,
        hm]
      exact .stops _
    · rw [State.readStop_refused hrefuse ha, memRead_cartRam hr, cartRead_refused hrefuse (by omega)]
      exact .stops _
    · rw [memRead_mbc2_ram hm hmode ha, State.readStop, if_neg (by omega), if_pos ha, hm, hmode]
      exact .gives ..

theorem State.readStop_of_region {r : Region} (hr : regionOf a = r)
    (hne : r ≠ .cartRom ∧ r ≠ .cartRam ∧ r ≠ .unmapped) (s : State) : s.readStop a = none := by
  subst hr
  obtain ⟨hrom, hram, hunmapped⟩ := hne
  rw [ne_eq, regionOf_cartRom] at hrom
  rw [ne_eq, regionOf_cartRam] at hram
  rw [ne_eq, regionOf_unmapped] at hunmapped
  rw [State.readStop, if_neg hrom, if_neg hram, if_neg hunmapped]

theorem answers_memRead (a : Word) (s : State) : Answers s (s.readStop a) (memRead a s) := by
  cases hr : regionOf a with
  | cartRom => exact answers_memRead_cartRom ((regionOf_cartRom a).mp hr) s
  | cartRam => exact answers_memRead_cartRam ((regionOf_cartRam a).mp hr) s
  | unmapped =>
    have ha := (regionOf_unmapped a).mp hr
    rw [memRead_unmapped hr, State.readStop, if_neg (by omega), if_neg (by omega), if_pos ha]
    exact .stops _
  | vram => rw [memRead_vram hr, State.readStop_of_region hr (by decide)]; exact .gives ..
  | wram => rw [memRead_wram hr, State.readStop_of_region hr (by decide)]; exact .gives ..
  | echo => rw [memRead_echo hr, State.readStop_of_region hr (by decide)]; exact .gives ..
  | oam => rw [memRead_oam hr, State.readStop_of_region hr (by decide)]; exact .gives ..
  | bootStatus => rw [memRead_bootStatus hr, State.readStop_of_region hr (by decide)]; exact .gives ..
  | forwarded =>
    obtain ⟨v, hread⟩ := ioRead_ok a s
    rw [memRead_forwarded hr, hread, State.readStop_of_region hr (by decide)]
    exact .gives ..

theorem memRead_of_readStop {why : Stop} (h : s.readStop a = some why) : memRead a s = .error why s :=
  (answers_memRead a s).of_stop_eq h

theorem memRead_of_readStop_none (h : s.readStop a = none) : ∃ v t, memRead a s = .ok v t :=
  (answers_memRead a s).of_stop_eq_none h

/-! ## Writes -/

theorem answers_memWrite_cartRom (ha : a.toNat ≤ 0x7FFF) (v : Byte) (s : State) :
    Answers s (s.writeStop a v) (memWrite a v s) := by
  have hrefused (h : s.refusesMbc) : Answers s (s.writeStop a v) (memWrite a v s) := by
    rw [memWrite_cartridge (.inl ha), State.writeStop_refused h (.inl ha), cartWrite_refused h]
    exact .stops _
  cases hm : s.mapper with
  | romOnly =>
    rw [memWrite_cartridge (.inl ha), cartWrite_romOnly hm, State.writeStop, if_pos ha, hm]
    exact .stops _
  | mbc1 m =>
    rw [memWrite_mbc1 hm ha, State.writeStop, if_pos ha, hm]
    exact .ite (.stops _) (.gives ..)
  | mbc2 m =>
    cases hmode : s.cfg.otherMbc with
    | refuse => exact hrefused ⟨hmode, by simp [hm], by simp [hm]⟩
    | reference =>
      rw [memWrite_mbc2 hm hmode ha, State.writeStop, if_pos ha, hm, hmode]
      exact .gives ..
  | mbc3 m =>
    cases hmode : s.cfg.otherMbc with
    | refuse => exact hrefused ⟨hmode, by simp [hm], by simp [hm]⟩
    | reference =>
      rw [memWrite_mbc3 hm hmode ha, State.writeStop, if_pos ha, hm, hmode]
      exact .ite (.stops _) (.gives ..)
  | mbc5 r m =>
    cases hmode : s.cfg.otherMbc with
    | refuse => exact hrefused ⟨hmode, by simp [hm], by simp [hm]⟩
    | reference =>
      rw [memWrite_mbc5 hm hmode ha, State.writeStop, if_pos ha, hm, hmode]
      exact .gives ..

theorem answers_memWrite_cartRam (ha : 0xA000 ≤ a.toNat ∧ a.toNat ≤ 0xBFFF) (v : Byte) (s : State) :
    Answers s (s.writeStop a v) (memWrite a v s) := by
  cases hbank : s.cramBank with
  | some p =>
    rw [State.writeStop_cram hbank ha, memWrite_cartridge (.inr ha), cartWrite_cram hbank (by omega)]
    exact answers_cramWrite ..
  | none =>
    obtain hm | hrefuse | ⟨m, hm, hmode⟩ := State.cramBank_eq_none hbank
    · rw [memWrite_cartridge (.inr ha), cartWrite_romOnly hm, State.writeStop, if_neg (by omega), if_pos ha,
        hm]
      exact .stops _
    · rw [State.writeStop_refused hrefuse (.inr ha), memWrite_cartridge (.inr ha), cartWrite_refused hrefuse]
      exact .stops _
    · rw [memWrite_mbc2_ram hm hmode ha, State.writeStop, if_neg (by omega), if_pos ha, hm, hmode]
      exact .gives ..

theorem State.writeStop_of_region {r : Region} (hr : regionOf a = r)
    (hne : r ≠ .cartRom ∧ r ≠ .cartRam ∧ r ≠ .unmapped) (v : Byte) (s : State) : s.writeStop a v = none := by
  subst hr
  obtain ⟨hrom, hram, hunmapped⟩ := hne
  rw [ne_eq, regionOf_cartRom] at hrom
  rw [ne_eq, regionOf_cartRam] at hram
  rw [ne_eq, regionOf_unmapped] at hunmapped
  rw [State.writeStop, if_neg hrom, if_neg hram, if_neg hunmapped]

theorem answers_memWrite (a : Word) (v : Byte) (s : State) :
    Answers s (s.writeStop a v) (memWrite a v s) := by
  cases hr : regionOf a with
  | cartRom => exact answers_memWrite_cartRom ((regionOf_cartRom a).mp hr) v s
  | cartRam => exact answers_memWrite_cartRam ((regionOf_cartRam a).mp hr) v s
  | unmapped =>
    have ha := (regionOf_unmapped a).mp hr
    rw [memWrite_unmapped v hr, State.writeStop, if_neg (by omega), if_neg (by omega), if_pos ha]
    exact .stops _
  | vram => rw [memWrite_vram v hr, State.writeStop_of_region hr (by decide)]; exact .gives ..
  | wram => rw [memWrite_wram v hr, State.writeStop_of_region hr (by decide)]; exact .gives ..
  | echo => rw [memWrite_echo v hr, State.writeStop_of_region hr (by decide)]; exact .gives ..
  | oam => rw [memWrite_oam v hr, State.writeStop_of_region hr (by decide)]; exact .gives ..
  | bootStatus => rw [memWrite_bootStatus v hr, State.writeStop_of_region hr (by decide)]; exact .gives ..
  | forwarded => rw [memWrite_forwarded hr, State.writeStop_of_region hr (by decide)]; exact .gives ..

theorem memWrite_of_writeStop {why : Stop} (h : s.writeStop a v = some why) :
    memWrite a v s = .error why s := (answers_memWrite a v s).of_stop_eq h

theorem memWrite_of_writeStop_none (h : s.writeStop a v = none) : ∃ t, memWrite a v s = .ok () t := by
  obtain ⟨_, t, ht⟩ := (answers_memWrite a v s).of_stop_eq_none h
  exact ⟨t, ht⟩

/-! ## The high page -/

theorem toNat_highPage (n : Byte) : (highPage n).toNat = 0xFF00 + n.toNat := by
  unfold highPage zeroExtendByte
  bv_omega

theorem highPage_eq (n : Byte) : highPage n = BitVec.ofNat 16 (0xFF00 + n.toNat) := by
  rw [← toNat_highPage, BitVec.ofNat_toNat, BitVec.setWidth_eq]

theorem regionOf_highPage (n : Byte) :
    regionOf (highPage n) = .bootStatus ∨ regionOf (highPage n) = .forwarded := by
  rw [regionOf_bootStatus, regionOf_forwarded, toNat_highPage]
  omega

theorem State.readStop_highPage (n : Byte) (s : State) : s.readStop (highPage n) = none := by
  obtain hr | hr := regionOf_highPage n
  · exact State.readStop_of_region hr (by decide) s
  · exact State.readStop_of_region hr (by decide) s

theorem State.writeStop_highPage (n v : Byte) (s : State) : s.writeStop (highPage n) v = none := by
  obtain hr | hr := regionOf_highPage n
  · exact State.writeStop_of_region hr (by decide) v s
  · exact State.writeStop_of_region hr (by decide) v s

end Sys2Proof.Machine
end

section
/-! PROOFS. Loads and stores (40_loads.md R220-R241): each form completes where its accesses do not stop: O35
to O39. -/

namespace Sys2Proof.Machine

variable {s t : State}

/-! ## What a pseudocode answers -/

theorem taking_of_error {n : Nat} {body : Exec Unit} {why : Stop} (h : body s = .error why t) :
    taking n body s = .error why t := Exec.bind_of_error h

section Completes

variable {i : Instr} {n : Nat} {body : Exec Unit}

/-- An instruction completes its pseudocode in `n` cycles. -/
theorem exec_of_ok (hx : exec i s = complete i (taking n body) s) (h : body s = .ok () t) :
    exec i s = .next (t.addCycles n) := hx.trans (complete_of_ok (taking_of_ok h))

theorem exec_of_error (hx : exec i s = complete i (taking n body) s) {why : Stop}
    (h : body s = .error why t) : exec i s = .next (stopped i s t why) :=
  hx.trans (complete_of_error (taking_of_error h))

end Completes

/-- The bytes of an instruction with a 16-bit immediate (30_encoding.md R180). -/
theorem imm16_bytes (op hi lo : Byte) : [op, lowByte (hi ++ lo), highByte (hi ++ lo)] = [op, lo, hi] := by
  rw [← joinBytes, lowByte_joinBytes, highByte_joinBytes]

/-! ## Loads that access no data memory -/

theorem exec_ldRegReg (dst src : Reg) (s : State) :
    exec (Instr.ldRegReg dst src) s = complete (Instr.ldRegReg dst src) (taking 4 (copyReg dst src)) s := by
  cases dst <;> cases src <;> rfl

theorem exec_ldRegD8 (r : Reg) (n : Byte) (s : State) :
    exec (Instr.ldRegD8 r n) s = complete (Instr.ldRegD8 r n) (taking 8 (loadImm r n)) s := by
  cases r <;> rfl

theorem exec_ldPairD16 (p : Pair) (v : Word) (s : State) :
    exec (Instr.ldPairD16 p v) s = complete (Instr.ldPairD16 p v) (taking 12 (loadPair p v)) s := by
  cases p <;> rfl

/-- Settles O35: these pseudocodes update the state and make no access. -/
theorem registerLoadsComplete : Obligations.RegisterLoadsComplete := by
  unfold Obligations.RegisterLoadsComplete
  exact ⟨fun dst src s => ⟨encode_ldRegReg dst src, exec_of_ok (exec_ldRegReg dst src s) rfl⟩,
    fun r n s => ⟨encode_ldRegD8 r n, exec_of_ok (exec_ldRegD8 r n s) rfl⟩,
    fun p lo hi s => ⟨(encode_ldPairD16 p _).trans (imm16_bytes _ hi lo),
      exec_of_ok (exec_ldPairD16 p _ s) rfl⟩,
    fun s => ⟨rfl, exec_of_ok (body := loadSpHl) rfl rfl⟩⟩

/-! ## Loads from memory -/

theorem loadFrom_of_ok {r : Reg} {f : State → Word} {v : Byte} (h : memRead (f s) s = .ok v t) :
    loadFrom r f s = .ok () (t.setReg r v) := by
  rw [loadFrom, Exec.look_bind, Exec.bind_of_ok h, update_apply]

theorem loadFrom_of_error {r : Reg} {f : State → Word} {why : Stop} (h : memRead (f s) s = .error why t) :
    loadFrom r f s = .error why t := by rw [loadFrom, Exec.look_bind, Exec.bind_of_error h]

/-- A load completes exactly where its read does not stop. -/
theorem exec_loadFrom {i : Instr} {n : Nat} {r : Reg} (f : State → Word)
    (hx : exec i s = complete i (taking n (loadFrom r f)) s) :
    (∀ why, s.readStop (f s) = some why → exec i s = .next (stopped i s s why)) ∧
    (s.readStop (f s) = none →
      ∃ v s1, memRead (f s) s = .ok v s1 ∧ exec i s = .next ((s1.setReg r v).addCycles n)) := by
  refine ⟨fun why h => exec_of_error hx (loadFrom_of_error (memRead_of_readStop h)), fun h => ?_⟩
  obtain ⟨v, s1, hread⟩ := memRead_of_readStop_none h
  exact ⟨v, s1, hread, exec_of_ok hx (loadFrom_of_ok hread)⟩

theorem exec_ldRegMemHl (r : Reg) (s : State) :
    exec (Instr.ldRegMemHl r) s = complete (Instr.ldRegMemHl r) (taking 8 (loadFrom r State.hl)) s := by
  cases r <;> rfl

/-- Settles O36: each form is a load from its address. -/
theorem memoryLoadsComplete : Obligations.MemoryLoadsComplete := by
  unfold Obligations.MemoryLoadsComplete
  simp only [← highPage_eq]
  exact ⟨fun r => ⟨encode_ldRegMemHl r, fun s => exec_loadFrom State.hl (exec_ldRegMemHl r s)⟩,
    ⟨rfl, fun s => exec_loadFrom State.bc rfl⟩,
    ⟨rfl, fun s => exec_loadFrom State.de rfl⟩,
    fun lo hi => ⟨imm16_bytes _ hi lo, fun s => exec_loadFrom (fun _ => hi ++ lo) rfl⟩,
    fun n => ⟨rfl, fun s => exec_loadFrom (fun _ => highPage n) rfl⟩,
    ⟨rfl, fun s => exec_loadFrom (highPage ·.c) rfl⟩,
    fun n s => s.readStop_highPage n⟩

/-! ## Byte stores -/

/-- A store completes exactly where its write does not stop. -/
theorem exec_storeTo {i : Instr} {n : Nat} (f : State → Word) (g : State → Byte)
    (hx : exec i s = complete i (taking n (storeTo f g)) s) :
    (∀ why, s.writeStop (f s) (g s) = some why → exec i s = .next (stopped i s s why)) ∧
    (s.writeStop (f s) (g s) = none →
      ∃ s1, memWrite (f s) (g s) s = .ok () s1 ∧ exec i s = .next (s1.addCycles n)) := by
  have hstore : storeTo f g s = memWrite (f s) (g s) s := rfl
  refine ⟨fun why h => exec_of_error hx (hstore.trans (memWrite_of_writeStop h)), fun h => ?_⟩
  obtain ⟨s1, hwrite⟩ := memWrite_of_writeStop_none h
  exact ⟨s1, hwrite, exec_of_ok hx (hstore.trans hwrite)⟩

theorem exec_ldMemHlReg (r : Reg) (s : State) :
    exec (Instr.ldMemHlReg r) s =
      complete (Instr.ldMemHlReg r) (taking 8 (storeTo State.hl (State.getReg · r))) s := by
  cases r <;> rfl

/-- Settles O37: each form is a store to its address. -/
theorem storesComplete : Obligations.StoresComplete := by
  unfold Obligations.StoresComplete
  simp only [← highPage_eq]
  exact ⟨fun r => ⟨encode_ldMemHlReg r, fun s => exec_storeTo State.hl (·.getReg r) (exec_ldMemHlReg r s)⟩,
    fun n => ⟨rfl, fun s => exec_storeTo State.hl (fun _ => n) rfl⟩,
    ⟨rfl, fun s => exec_storeTo State.bc State.a rfl⟩,
    ⟨rfl, fun s => exec_storeTo State.de State.a rfl⟩,
    fun lo hi => ⟨imm16_bytes _ hi lo, fun s => exec_storeTo (fun _ => hi ++ lo) State.a rfl⟩,
    fun n => ⟨rfl, fun s => exec_storeTo (fun _ => highPage n) State.a rfl⟩,
    ⟨rfl, fun s => exec_storeTo (highPage ·.c) State.a rfl⟩,
    fun n v s => s.writeStop_highPage n v⟩

/-! ## The forms that step HL -/

theorem ReadKeeps.hl (h : ReadKeeps s t) : t.hl = s.hl := by
  rw [h]
  rfl

theorem WriteKeeps.hl (h : WriteKeeps s t) : t.hl = s.hl := by
  rw [h.1]
  rfl

theorem loadStep_of_ok {d : Word} {v : Byte} (h : memRead s.hl s = .ok v t) :
    loadStep d s = .ok () ({ t with a := v }.setHl (s.hl + d)) := by
  rw [loadStep, Exec.bind_of_ok (loadFrom_of_ok h), ← (memRead_ok h).hl]
  rfl

theorem loadStep_of_error {d : Word} {why : Stop} (h : memRead s.hl s = .error why t) :
    loadStep d s = .error why t := Exec.bind_of_error (loadFrom_of_error h)

theorem storeStep_of_ok {d : Word} (h : memWrite s.hl s.a s = .ok () t) :
    storeStep d s = .ok () (t.setHl (s.hl + d)) := by
  have hstore : storeTo State.hl State.a s = .ok () t := h
  rw [storeStep, Exec.bind_of_ok hstore, ← (memWrite_ok h).hl]
  rfl

theorem storeStep_of_error {d : Word} {why : Stop} (h : memWrite s.hl s.a s = .error why t) :
    storeStep d s = .error why t := Exec.bind_of_error (x := storeTo State.hl State.a) h

theorem exec_loadStep {i : Instr} {n : Nat} {d : Word}
    (hx : exec i s = complete i (taking n (loadStep d)) s) :
    (∀ why, s.readStop s.hl = some why → exec i s = .next (stopped i s s why)) ∧
    (s.readStop s.hl = none → ∃ v s1, memRead s.hl s = .ok v s1 ∧
      exec i s = .next (({ s1 with a := v }.setHl (s.hl + d)).addCycles n)) := by
  refine ⟨fun why h => exec_of_error hx (loadStep_of_error (memRead_of_readStop h)), fun h => ?_⟩
  obtain ⟨v, s1, hread⟩ := memRead_of_readStop_none h
  exact ⟨v, s1, hread, exec_of_ok hx (loadStep_of_ok hread)⟩

theorem exec_storeStep {i : Instr} {n : Nat} {d : Word}
    (hx : exec i s = complete i (taking n (storeStep d)) s) :
    (∀ why, s.writeStop s.hl s.a = some why → exec i s = .next (stopped i s s why)) ∧
    (s.writeStop s.hl s.a = none → ∃ s1, memWrite s.hl s.a s = .ok () s1 ∧
      exec i s = .next ((s1.setHl (s.hl + d)).addCycles n)) := by
  refine ⟨fun why h => exec_of_error hx (storeStep_of_error (memWrite_of_writeStop h)), fun h => ?_⟩
  obtain ⟨s1, hwrite⟩ := memWrite_of_writeStop_none h
  exact ⟨s1, hwrite, exec_of_ok hx (storeStep_of_ok hwrite)⟩

/-- Settles O38: each form is a load or a store at HL, then the step of HL, which the access left alone. -/
theorem hlStepFormsComplete : Obligations.HlStepFormsComplete := by
  unfold Obligations.HlStepFormsComplete
  exact ⟨⟨rfl, fun s => exec_loadStep rfl⟩, ⟨rfl, fun s => exec_loadStep rfl⟩,
    ⟨rfl, fun s => exec_storeStep rfl⟩, ⟨rfl, fun s => exec_storeStep rfl⟩⟩

/-! ## LD (a16),SP -/

theorem storeSp_of_error {a : Word} {why : Stop} (h : memWrite a (lowByte s.sp) s = .error why t) :
    storeSp a s = .error why t := by rw [storeSp, Exec.look_bind, Exec.bind_of_error h]

theorem storeSp_of_ok {a : Word} (h : memWrite a (lowByte s.sp) s = .ok () t) :
    storeSp a s = memWrite (a + 1#16) (highByte s.sp) t := by rw [storeSp, Exec.look_bind, Exec.bind_of_ok h]

/-- Settles O39, write by write. -/
theorem storeSpCompletes : Obligations.StoreSpCompletes := by
  unfold Obligations.StoreSpCompletes
  rintro lo hi s addr rfl
  have hx : exec (.ldMemA16Sp (hi ++ lo)) s =
      complete (.ldMemA16Sp (hi ++ lo)) (taking 20 (storeSp (hi ++ lo))) s := rfl
  refine ⟨imm16_bytes _ hi lo, fun why h => exec_of_error hx (storeSp_of_error (memWrite_of_writeStop h)),
    fun h => ?_⟩
  obtain ⟨s1, hlow⟩ := memWrite_of_writeStop_none h
  have hsecond := storeSp_of_ok hlow
  refine ⟨s1, hlow, fun why h1 => exec_of_error hx (hsecond.trans (memWrite_of_writeStop h1)), fun h1 => ?_⟩
  obtain ⟨s2, hhigh⟩ := memWrite_of_writeStop_none h1
  exact ⟨s2, hhigh, exec_of_ok hx (hsecond.trans hhigh)⟩

end Sys2Proof.Machine
end

section
/-! PROOFS. The stack (40_loads.md R242-R246): Push16 and Pop16 access by access, PUSH and POP, and that a pop
undoes a push where the stack is storage: O40 to O42. -/

namespace Sys2Proof.Machine

variable {s t u : State} {a : Word} {v : Word} {lo hi : Byte}

/-! ## Push16 and Pop16, access by access -/

theorem word_sub_two (a : Word) : a - 2#16 = a - 1#16 - 1#16 := by rw [BitVec.sub_sub]; rfl

theorem push16_of_error_high {why : Stop}
    (h : memWrite (s.sp - 1#16) (highByte v) (s.setSp (s.sp - 1#16)) = .error why t) :
    push16 v s = .error why t := Exec.bind_of_error (x := pushByte (highByte v)) h

/-- Once the high byte is written, Push16 is the write of the low byte below it. -/
theorem push16_of_ok_high (h : memWrite (s.sp - 1#16) (highByte v) (s.setSp (s.sp - 1#16)) = .ok () t) :
    push16 v s = memWrite (s.sp - 2#16) (lowByte v) (t.setSp (s.sp - 2#16)) := by
  have hpush : pushByte (highByte v) s = .ok () t := h
  have hlow : pushByte (lowByte v) t = memWrite (t.sp - 1#16) (lowByte v) (t.setSp (t.sp - 1#16)) := rfl
  rw [push16, Exec.bind_of_ok hpush, hlow, pushByte_sp hpush, ← word_sub_two]

theorem ReadKeeps.sp (h : ReadKeeps s t) : t.sp = s.sp := by
  rw [h]

theorem popByte_of_ok (h : memRead s.sp s = .ok lo t) : popByte s = .ok lo (t.setSp (s.sp + 1#16)) := by
  rw [popByte, Exec.look_bind, Exec.bind_of_ok h, ← (memRead_ok h).sp]
  rfl

theorem popByte_of_error {why : Stop} (h : memRead s.sp s = .error why t) : popByte s = .error why t := by
  rw [popByte, Exec.look_bind, Exec.bind_of_error h]

theorem pop16_of_error_low {why : Stop} (h : memRead s.sp s = .error why t) : pop16 s = .error why t :=
  Exec.bind_of_error (popByte_of_error h)

theorem pop16_of_error_high {why : Stop} (hlo : memRead s.sp s = .ok lo t)
    (hhi : memRead (s.sp + 1#16) (t.setSp (s.sp + 1#16)) = .error why u) : pop16 s = .error why u := by
  have hpop : popByte (t.setSp (s.sp + 1#16)) = .error why u := popByte_of_error hhi
  rw [pop16, Exec.bind_of_ok (popByte_of_ok hlo), Exec.bind_of_error hpop]

theorem pop16_of_ok (hlo : memRead s.sp s = .ok lo t)
    (hhi : memRead (s.sp + 1#16) (t.setSp (s.sp + 1#16)) = .ok hi u) :
    pop16 s = .ok (joinBytes hi lo) (u.setSp (s.sp + 2#16)) := by
  have hpop : popByte (t.setSp (s.sp + 1#16)) = .ok hi (u.setSp (s.sp + 1#16 + 1#16)) := popByte_of_ok hhi
  rw [pop16, Exec.bind_of_ok (popByte_of_ok hlo), Exec.bind_of_ok hpop, BitVec.add_assoc]
  rfl

/-- Settles O40, access by access. -/
theorem stackPrimitives : Obligations.StackPrimitives := by
  unfold Obligations.StackPrimitives
  refine ⟨?_, fun s => ⟨fun why h => pop16_of_error_low (memRead_of_readStop h), fun h => ?_⟩⟩
  · rintro v s s0 rfl
    refine ⟨fun why h => push16_of_error_high (memWrite_of_writeStop h), fun h => ?_⟩
    obtain ⟨s1, hhigh⟩ := memWrite_of_writeStop_none h
    have hsecond := push16_of_ok_high hhigh
    refine ⟨s1, hhigh, ?_⟩
    rintro s2 rfl
    refine ⟨fun why h2 => hsecond.trans (memWrite_of_writeStop h2), fun h2 => ?_⟩
    obtain ⟨s3, hlow⟩ := memWrite_of_writeStop_none h2
    exact ⟨s3, hlow, hsecond.trans hlow⟩
  · obtain ⟨lo, s1, hlo⟩ := memRead_of_readStop_none h
    refine ⟨lo, s1, hlo, ?_⟩
    rintro s2 rfl
    refine ⟨fun why h2 => pop16_of_error_high hlo (memRead_of_readStop h2), fun h2 => ?_⟩
    obtain ⟨hi, s3, hhi⟩ := memRead_of_readStop_none h2
    exact ⟨hi, s3, hhi, pop16_of_ok hlo hhi⟩

/-! ## PUSH and POP -/

variable {p : StackPair}

theorem exec_push (p : StackPair) (s : State) :
    exec (Instr.push p) s = complete (Instr.push p) (taking 16 (pushPair p)) s := by cases p <;> rfl

theorem exec_pop (p : StackPair) (s : State) :
    exec (Instr.pop p) s = complete (Instr.pop p) (taking 12 (popPair p)) s := by cases p <;> rfl

theorem exec_push_of_ok (h : push16 (s.getStackPair p) s = .ok () t) :
    exec (Instr.push p) s = .next (t.addCycles 16) := exec_of_ok (exec_push p s) h

theorem exec_pop_of_ok (h : pop16 s = .ok v t) :
    exec (Instr.pop p) s = .next ((t.setStackPair p v).addCycles 12) :=
  exec_of_ok (exec_pop p s) (Exec.bind_of_ok h)

/-- A flag of the word popped into AF is its bit of the low byte, which the mask keeps. -/
theorem State.flag_setAf (s : State) (v : Word) (x : Flag) : (s.setAf v).flag x = v.getLsbD x.bit := by
  have hbit : x.bit < 8 ∧ (0xF0#8).getLsbD x.bit = true := by cases x <;> decide
  have hf : (s.setAf v).f = lowByte v &&& 0xF0#8 := rfl
  rw [State.flag, hf, BitVec.getLsbD_and, hbit.2, Bool.and_true, lowByte, BitVec.getLsbD_extractLsb',
    decide_eq_true hbit.1, Bool.true_and, Nat.zero_add]

/-- Settles O41: PUSH and POP are the primitives on the pair. -/
theorem pushPopComplete : Obligations.PushPopComplete := by
  unfold Obligations.PushPopComplete
  refine ⟨fun p s => ⟨encode_push p, ?_⟩, fun p s => ⟨encode_pop p, ?_⟩, fun s v => ⟨rfl, rfl,
    s.flag_setAf v .zero, s.flag_setAf v .subtract, s.flag_setAf v .halfCarry, s.flag_setAf v .carry⟩⟩
  · cases h : push16 (s.getStackPair p) s with
    | ok _ s1 => exact exec_push_of_ok h
    | error why s1 => exact exec_of_error (exec_push p s) h
  · cases h : pop16 s with
    | ok v s1 => exact exec_pop_of_ok h
    | error why s1 => exact exec_of_error (exec_pop p s) (Exec.bind_of_error h)

/-! ## A byte stored at a storage address -/

/-- The home of a storage address differs from it by at most the mirror's distance (20_memory.md R94). -/
theorem State.home_mod (h : s.isStorage a = true) : (s.home a).toNat % 0x2000 = a.toNat % 0x2000 := by
  unfold State.home
  split
  next hr =>
    have ha := (regionOf_echo a).mp hr
    bv_omega
  next hr hm => simp [State.isStorage, hr, hm] at h
  next => rfl

/-- Two storage addresses next to each other are two locations. -/
theorem State.home_ne_home_sub_one (h : s.isStorage a = true) (h' : s.isStorage (a - 1#16) = true) :
    s.home a ≠ s.home (a - 1#16) := by
  intro heq
  have hmod := State.home_mod h
  rw [heq, State.home_mod h'] at hmod
  bv_omega

/-- What storing a byte at a storage address does. -/
structure StoredByte (s : State) (a : Word) (v : Byte) (t : State) : Prop where
  performed : memWrite a v s = .ok () t
  wf : t.storesWf
  holds : t.peek a = some v
  others : ∀ b, s.home b ≠ s.home a → t.peek b = s.peek b
  storage : ∀ b, t.isStorage b = s.isStorage b

theorem exists_storedByte (hwf : s.storesWf) (ha : s.isStorage a = true) (v : Byte) :
    ∃ t, StoredByte s a v t := by
  obtain ⟨k, i, hcell⟩ := State.cell_of_isStorage ha
  have hwrite := memWrite_of_cell hcell v
  refine ⟨_, hwrite, ?_, ?_, fun b hb => State.peek_withStore_of_ne fun hbcell => ?_, fun b => ?_⟩
  · have hwf' := memWrite_storesWf hwf a v
    rwa [hwrite] at hwf'
  · rw [State.peek_of_cell ((State.withStore_cell s k _ a).trans hcell), State.store_withStore_same,
      Memory.read_write_same (hwf.store k)]
  · exact hb (State.home_eq_of_cell_eq hcell hbcell)
  · rw [State.isStorage_eq_cell, State.isStorage_eq_cell, State.withStore_cell]

theorem State.peek_setSp (ha : s.isStorage a = true) (b : Word) : (s.setSp b).peek a = s.peek a := by
  obtain ⟨k, i, hcell⟩ := State.cell_of_isStorage ha
  have hcell' : (s.setSp b).cell a = some (k, i) := hcell
  rw [State.peek_of_cell hcell, State.peek_of_cell hcell']
  cases k <;> rfl

/-! ## Pop undoes push -/

/-- Where the two stack bytes are storage, Push16 is performed and memory holds the word's two bytes. -/
theorem push16_holds (v : Word) (hwf : s.storesWf) (h1 : s.isStorage (s.sp - 1#16) = true)
    (h2 : s.isStorage (s.sp - 2#16) = true) :
    ∃ t, push16 v s = .ok () t ∧ t.sp = s.sp - 2#16 ∧ t.isStorage (s.sp - 1#16) = true ∧
      t.peek (s.sp - 2#16) = some (lowByte v) ∧ t.peek (s.sp - 1#16) = some (highByte v) := by
  obtain ⟨s1, hhigh⟩ := exists_storedByte (s := s.setSp (s.sp - 1#16)) hwf h1 (highByte v)
  have h1' : s1.isStorage (s.sp - 1#16) = true := (hhigh.storage _).trans h1
  have h2' : s1.isStorage (s.sp - 2#16) = true := (hhigh.storage _).trans h2
  obtain ⟨s2, hlow⟩ := exists_storedByte (s := s1.setSp (s.sp - 2#16)) hhigh.wf h2' (lowByte v)
  have hne : s1.home (s.sp - 1#16) ≠ s1.home (s.sp - 2#16) := by
    rw [word_sub_two] at h2' ⊢
    exact State.home_ne_home_sub_one h1' h2'
  refine ⟨s2, (push16_of_ok_high hhigh.performed).trans hlow.performed,
    congrArg State.sp (memWrite_ok hlow.performed).1, (hlow.storage _).trans h1', hlow.holds, ?_⟩
  rw [hlow.others _ hne, State.peek_setSp h1', hhigh.holds]

theorem pop16_of_peek (hlo : s.peek s.sp = some lo) (h : s.isStorage (s.sp + 1#16) = true)
    (hhi : s.peek (s.sp + 1#16) = some hi) :
    pop16 s = .ok (joinBytes hi lo) (s.setSp (s.sp + 2#16)) := by
  have hhi' : (s.setSp (s.sp + 1#16)).peek (s.sp + 1#16) = some hi := (State.peek_setSp h _).trans hhi
  rw [pop16_of_ok (memRead_of_peek hlo) (memRead_of_peek hhi')]
  rfl

theorem pop16_undoes_push16 (v : Word) (hwf : s.storesWf) (h1 : s.isStorage (s.sp - 1#16) = true)
    (h2 : s.isStorage (s.sp - 2#16) = true) :
    ∃ t, push16 v s = .ok () t ∧ t.sp = s.sp - 2#16 ∧ pop16 t = .ok v (t.setSp s.sp) := by
  obtain ⟨t, hpush, hsp, hstorage, hlo, hhi⟩ := push16_holds v hwf h1 h2
  have hsp1 : t.sp + 1#16 = s.sp - 1#16 := by rw [hsp, word_sub_two, BitVec.sub_add_cancel]
  have hsp2 : t.sp + 2#16 = s.sp := by rw [hsp, BitVec.sub_add_cancel]
  rw [← hsp] at hlo
  rw [← hsp1] at hstorage hhi
  refine ⟨t, hpush, hsp, ?_⟩
  rw [pop16_of_peek hlo hstorage hhi, joinBytes_high_low, hsp2]

/-! ## The pair is unchanged -/

theorem push16_unwritten {q : Part} (hq : .sp ≠ q) (h : push16 v s = .ok () t) : q.Unwritten s t := by
  have hkeeps := (Part.Unwritten.keptByAccess q).push16 (Part.Unwritten.keptBy hq) v s
  rwa [h] at hkeeps

theorem push16_getStackPair (p : StackPair) (h : push16 v s = .ok () t) :
    t.getStackPair p = s.getStackPair p := by
  have hreg (r : Reg) : t.getReg r = s.getReg r := push16_unwritten (q := .reg r) (by simp) h
  have hflags : t.f = s.f := push16_unwritten (q := .flags) (by simp) h
  cases p with
  | bc => exact congrArg₂ joinBytes (hreg .b) (hreg .c)
  | de => exact congrArg₂ joinBytes (hreg .d) (hreg .e)
  | hl => exact congrArg₂ joinBytes (hreg .h) (hreg .l)
  | af => exact congrArg₂ joinBytes (hreg .a) hflags

theorem push16_cycles (h : push16 v s = .ok () t) : t.cycles = s.cycles := by
  have hkeeps := ((Blind.push16 v).keeps s).2
  rwa [h] at hkeeps

theorem State.flagsLegal.masked_f (hs : s.flagsLegal) : s.f &&& 0xF0#8 = s.f := by
  calc s.f &&& 0xF0#8 = (s.f &&& 0xF0#8) ||| (s.f &&& 0x0F#8) := by rw [hs, BitVec.or_zero]
    _ = s.f &&& (0xF0#8 ||| 0x0F#8) := by rw [BitVec.and_or_distrib_left]
    _ = s.f := BitVec.and_allOnes

/-- Writing a pair with the value it has changes nothing, for AF because F has no low bits. -/
theorem State.setStackPair_self (hs : s.flagsLegal) (h : s.getStackPair p = v) : s.setStackPair p v = s := by
  subst h
  cases p with
  | bc | de | hl =>
    simp only [State.setStackPair, State.getStackPair, State.setBc, State.bc, State.setDe, State.de,
      State.setHl, State.hl, highByte_joinBytes, lowByte_joinBytes]
  | af =>
    simp only [State.setStackPair, State.getStackPair, State.setAf, State.setF, State.af, highByte_joinBytes,
      lowByte_joinBytes, hs.masked_f]

theorem pop16_addCycles (n : Nat) (h : pop16 s = .ok v t) :
    pop16 (s.addCycles n) = .ok v (t.addCycles n) := by
  obtain ⟨hime, hcycles⟩ := Blind.pop16.keeps s
  rw [h] at hime hcycles
  have hs : s.addCycles n = s.veil s.ime (s.cycles + n) := rfl
  have ht : t.addCycles n = t.veil s.ime (s.cycles + n) := by rw [← hime, ← hcycles]; rfl
  rw [hs, Blind.pop16, h, ht, veilResult]

/-- PUSH rr then POP rr leave only what the push stored, and the cycles. -/
theorem exec_pop_undoes_push (p : StackPair) (hwf : s.storesWf) (hs : s.flagsLegal)
    (h1 : s.isStorage (s.sp - 1#16) = true) (h2 : s.isStorage (s.sp - 2#16) = true) :
    ∃ t, exec (Instr.push p) s = .next t ∧ t.getStackPair p = s.getStackPair p ∧
      exec (Instr.pop p) t = .next { t with sp := s.sp, cycles := s.cycles + 28 } := by
  obtain ⟨t, hpush, -, hpop⟩ := pop16_undoes_push16 (s.getStackPair p) hwf h1 h2
  have hpair := push16_getStackPair p hpush
  have hf : t.f = s.f := push16_unwritten (q := .flags) (by simp) hpush
  have hlegal : ((t.setSp s.sp).addCycles 16).flagsLegal := by
    rw [State.flagsLegal, ← hf] at hs
    exact hs
  have hpair' : ((t.setSp s.sp).addCycles 16).getStackPair p = s.getStackPair p := by cases p <;> exact hpair
  have hexec := exec_pop_of_ok (p := p) (pop16_addCycles 16 hpop)
  rw [State.setStackPair_self hlegal hpair'] at hexec
  refine ⟨t.addCycles 16, exec_push_of_ok hpush, by cases p <;> exact hpair, hexec.trans ?_⟩
  rw [← push16_cycles hpush]
  rfl

/-- Settles O42: memory holds the two bytes pushed, at two locations, and pop reads them back. -/
theorem popUndoesPush : Obligations.PopUndoesPush := by
  unfold Obligations.PopUndoesPush
  refine ⟨fun v s hwf h1 h2 => pop16_undoes_push16 v hwf h1 h2, fun p s hwf hs h1 h2 => ?_⟩
  obtain ⟨t, hpush, hpair, hpop⟩ := exec_pop_undoes_push p hwf hs h1 h2
  exact ⟨t, _, hpush, hpop, rfl, by cases p <;> exact hpair⟩

end Sys2Proof.Machine
end

section
/-! PROOFS. The memory frame (20_memory.md R88, R94, 40_loads.md sections 1 to 3): a byte that no store names
is read as before: O33. -/

namespace Sys2Proof.Machine

variable {s t : State} {a b : Word}

/-! ## What a byte seen depends on -/

theorem SameStores.peek_cartRam (h : SameStores { s with cram2 := t.cram2 } t) (hr : regionOf a = .cartRam)
    (hcell : s.cell a = none)
    (hcram2 : t.cram2.read (a.toNat % 512) = s.cram2.read (a.toNat % 512)) : t.peek a = s.peek a := by
  have hmapper : t.mapper = s.mapper := by rw [h]
  have hcfg : t.cfg = s.cfg := by rw [h]
  have ha := (regionOf_cartRam a).mp hr
  cases hbank : s.cramBank with
  | some p =>
    have hbank' : t.cramBank = some p := by rw [← hbank, h]; rfl
    have hcell' : t.cell a = none := by rw [← hcell, h]; rfl
    rw [State.peek_cram hr hbank hcell, State.peek_cram hr hbank' hcell']
  | none =>
    obtain hrom | hrefuse | ⟨m, hm, hmode⟩ := State.cramBank_eq_none hbank
    · have hread (u : State) (hu : u.mapper = .romOnly) := cartRead_romOnly (a := a) hu (by omega)
      simp only [State.peek, memRead_cartRam hr, hread s hrom, hread t (hmapper.trans hrom)]
    · have hread (u : State) (hu : u.refusesMbc) := cartRead_refused (a := a) hu (by omega)
      have hrefuse' : t.refusesMbc := by rwa [State.refusesMbc, hmapper, hcfg]
      simp only [State.peek, memRead_cartRam hr, hread s hrefuse, hread t hrefuse']
    · have hmode' := (congrArg Config.otherMbc hcfg).trans hmode
      simp only [State.peek, memRead_mbc2_ram hm hmode ha, memRead_mbc2_ram (hmapper.trans hm) hmode' ha,
        hcram2]

/-- A byte seen is a byte of the stores: another state with the same stores shows it too. Of the cells of the
MBC2 class only the one the address names is shown, and only in the external-RAM region. -/
theorem SameStores.peek_of_cram2 (h : SameStores { s with cram2 := t.cram2 } t)
    (hcram2 : regionOf a = .cartRam → t.cram2.read (a.toNat % 512) = s.cram2.read (a.toNat % 512)) :
    t.peek a = s.peek a := by
  have hcells : t.cell a = s.cell a := by rw [h]; rfl
  cases hcell : s.cell a with
  | some c =>
    obtain ⟨k, i⟩ := c
    rw [State.peek_of_cell hcell, State.peek_of_cell (hcells.trans hcell), h]
    cases k <;> rfl
  | none =>
    cases hr : regionOf a with
    | cartRom =>
      rw [State.peek_cartRom ((regionOf_cartRom a).mp hr), State.peek_cartRom ((regionOf_cartRom a).mp hr), h]
      rfl
    | cartRam => exact h.peek_cartRam hr hcell (hcram2 hr)
    | vram | wram | echo | oam =>
      simp only [State.cell, hr] at hcell
      cases hcell
    | unmapped => rw [State.peek_of_error (memRead_unmapped hr _), State.peek_of_error (memRead_unmapped hr _)]
    | bootStatus =>
      have hne : regionOf a ≠ .forwarded := by rw [hr]; decide
      rw [State.peek_of_ok hne (memRead_bootStatus hr _), State.peek_of_ok hne (memRead_bootStatus hr _), h]
    | forwarded => simp only [State.peek, hr, if_true]

theorem SameStores.peek (h : SameStores s t) (a : Word) : t.peek a = s.peek a := by
  have hcram2 : t.cram2 = s.cram2 := by rw [h]
  refine SameStores.peek_of_cram2 ?_ fun _ => by rw [hcram2]
  rw [hcram2]
  exact h

theorem State.home_of_mapper (h : t.mapper = s.mapper) (a : Word) : t.home a = s.home a := by
  simp only [State.home, h]

/-- Two external-RAM addresses of one cell of the MBC2 class have one home (20_memory.md R141). -/
theorem State.cram2Cell_ne {m : Mbc2} (hm : s.mapper = .mbc2 m) (ha : regionOf a = .cartRam)
    (hb : regionOf b = .cartRam) (h : s.home a ≠ s.home b) : b.toNat % 512 ≠ a.toNat % 512 := by
  intro heq
  apply h
  simp only [State.home, ha, hb, hm, cram2Index, heq]

/-! ## A byte write -/

/-- A write to the external-RAM region that names no cell of CRAM changes a cell of the MBC2 class, or
nothing. -/
theorem memWrite_cartRam_peek (ha : regionOf a = .cartRam) (hcell : s.cell a = none)
    (hne : s.home a ≠ s.home b) (v : Byte) : (stateOf (memWrite a v s)).peek b = s.peek b := by
  have hrange := (regionOf_cartRam a).mp ha
  cases hbank : s.cramBank with
  | some p =>
    obtain ⟨en, bank⟩ := p
    have hout : en = true → ¬ cramOffset bank a < s.cramSize := by
      rintro rfl hlt
      simp [State.cell, ha, State.cramCell, hbank, hlt] at hcell
    rw [memWrite_cram hbank hrange]
    cases en with
    | false => rfl
    | true => rw [if_neg (by decide), if_neg (hout rfl)]; rfl
  | none =>
    obtain hrom | hrefuse | ⟨m, hm, hmode⟩ := State.cramBank_eq_none hbank
    · rw [memWrite_cartridge (.inr hrange), cartWrite_romOnly hrom]; rfl
    · rw [memWrite_cartridge (.inr hrange), cartWrite_refused hrefuse]; rfl
    · rw [memWrite_mbc2_ram hm hmode hrange]
      cases m.ramEn with
      | false => rfl
      | true =>
        exact SameStores.peek_of_cram2 (SameStores.refl _) fun hb =>
          Memory.read_write_other _ (State.cram2Cell_ne hm ha hb hne) _

/-- A byte written outside the control windows is seen at the addresses of its own location only. -/
theorem memWrite_peek (hdata : isDataAddress a = true) (hne : s.home a ≠ s.home b) (v : Byte) :
    (stateOf (memWrite a v s)).peek b = s.peek b := by
  cases hcell : s.cell a with
  | some c =>
    obtain ⟨k, i⟩ := c
    rw [memWrite_of_cell hcell]
    exact State.peek_withStore_of_ne fun hb => hne (State.home_eq_of_cell_eq hb hcell)
  | none =>
    cases hr : regionOf a with
    | cartRom | bootStatus =>
      simp only [isDataAddress, hr] at hdata
      cases hdata
    | vram | wram | echo | oam =>
      simp only [State.cell, hr] at hcell
      cases hcell
    | cartRam => exact memWrite_cartRam_peek hr hcell hne v
    | unmapped => rw [memWrite_unmapped v hr]; rfl
    | forwarded =>
      rw [memWrite_forwarded hr]
      exact SameStores.peek (t := { s with ioLog := .write a v :: s.ioLog }) rfl b

/-! ## Every instruction -/

theorem toNat_of_isDataAddress (h : isDataAddress a = true) : 0x7FFF < a.toNat := by
  by_contra hle
  simp only [isDataAddress, (regionOf_cartRom a).mpr (by omega)] at h
  cases h

/-- Every address of a list is outside the control windows and names another location than `b`. -/
def AvoidsAt (as : List Word) (b : Word) (s : State) : Prop :=
  ∀ a ∈ as, isDataAddress a = true ∧ s.home a ≠ s.home b

theorem Stored.avoidsAt {as : List Word} (h : Stored as s t) (has : AvoidsAt as b s) : AvoidsAt as b t := by
  have hmapper := h.mapper fun a ha => toNat_of_isDataAddress (has a ha).1
  intro a ha
  rw [State.home_of_mapper hmapper, State.home_of_mapper hmapper]
  exact has a ha

theorem Stored.peek {as : List Word} (h : Stored as s t) : AvoidsAt as b s → t.peek b = s.peek b := by
  intro has
  induction h with
  | same h => exact h.peek b
  | write v ha => exact memWrite_peek (has _ ha).1 (has _ ha).2 v
  | trans h1 _ ih1 ih2 => exact (ih2 (h1.avoidsAt has)).trans (ih1 has)

/-- Settles O33: an instruction reaches its stores by byte writes where `storeAddresses` says, and a byte write
is seen at its own location only. -/
theorem memoryFrame : Obligations.MemoryFrame := by
  unfold Obligations.MemoryFrame
  intro i s t h
  refine ⟨fun b has => (exec_stored h).peek has, fun hnone b => (exec_stored h).peek fun a ha => ?_⟩
  rw [hnone] at ha
  cases ha

end Sys2Proof.Machine
end

section
/-! PROOFS. The ALU group (41_alu8.md R270-R280): what an operation leaves, by the result and flags of
`aluCompute`: O43, O44 and O45. -/

namespace Sys2Proof.Machine

variable {s t : State}

theorem cyclesOn_eq_ite (o : Operand) (n m : Nat) : cyclesOn o n m = if o = .memHl then m else n := by
  cases o with
  | reg r => exact (if_neg nofun).symm
  | memHl => exact (if_pos rfl).symm

theorem ReadKeeps.flag (h : ReadKeeps s t) (x : Flag) : t.flag x = s.flag x := by
  rw [h]
  rfl

/-! ## Every source operand -/

/-- An instruction of the ALU group on any source operand: its encoding; where the source is read it answers a
state related by `Q` to the state after the read, the source and the cycles; where the read stops it writes
nothing. -/
def AluCompletes (op : AluOp) (s : State) (Q : State → State → Byte → Nat → Prop) : Prop :=
  (∀ o : Operand, encode (Instr.aluOperand op o) = [byteOf (0x80 + 8 * codeOfAlu op + codeOfOperand o)] ∧
    (∀ v s1, readOperand o s = .ok v s1 →
      ∃ t, exec (Instr.aluOperand op o) s = .next t ∧ Q s1 t v (if o = .memHl then 8 else 4)) ∧
    (∀ why s1, readOperand o s = .error why s1 →
      exec (Instr.aluOperand op o) s = .next (stopped (Instr.aluOperand op o) s s1 why))) ∧
  (∀ n : Byte, encode (Instr.aluD8 op n) = [byteOf (0xC6 + 8 * codeOfAlu op), n] ∧
    ∃ t, exec (Instr.aluD8 op n) s = .next t ∧ Q s t n 8)

theorem exec_aluD8 (op : AluOp) (n : Byte) (s : State) :
    exec (Instr.aluD8 op n) s = .next ((s.alu op n).addCycles 8) := by cases op <;> rfl

theorem exec_aluOperand_of_ok (op : AluOp) {o : Operand} {v : Byte} (h : readOperand o s = .ok v t) :
    exec (Instr.aluOperand op o) s = .next ((t.alu op v).addCycles (if o = .memHl then 8 else 4)) := by
  rw [← cyclesOn_eq_ite]
  exact exec_of_ok (exec_aluOperand op o s) (Exec.bind_of_ok h)

/-- The flags an operation starts on are those before the read of its source, so it is enough to say what
`State.alu` leaves. -/
theorem aluCompletes {op : AluOp} {Q : State → State → Byte → Nat → Prop}
    (hQ : ∀ s1 v n, s1.flag .carry = s.flag .carry → Q s1 ((s1.alu op v).addCycles n) v n) :
    AluCompletes op s Q := by
  refine ⟨fun o => ⟨encode_aluOperand op o, fun v s1 h => ?_, fun why s1 h => ?_⟩,
    fun n => ⟨encode_aluD8 op n, _, exec_aluD8 op n s, hQ s n 8 rfl⟩⟩
  · exact ⟨_, exec_aluOperand_of_ok op h, hQ s1 v _ ((readOperand_ok h).flag .carry)⟩
  · exact exec_of_error (exec_aluOperand op o s) (Exec.bind_of_error h)

/-- A completed operation leaves the result and the flags of `aluCompute`; CP leaves A. -/
theorem State.alu_addCycles {op : AluOp} {v : Byte} {r : FlagResult 8}
    (hr : aluCompute op s.a v (s.flag .carry) = r) {n : Nat} (ht : t = (s.alu op v).addCycles n) :
    t = { s with a := t.a, f := t.f, cycles := s.cycles + n } ∧
    t.a = (if op = .cp then s.a else r.result) ∧ t.flag .zero = r.z ∧ t.flag .subtract = r.n ∧
    t.flag .halfCarry = r.h ∧ t.flag .carry = r.c := by
  subst hr ht
  cases op <;>
    exact ⟨rfl, rfl, State.flag_setFlags_zero s .., State.flag_setFlags_subtract s ..,
      State.flag_setFlags_halfCarry s .., State.flag_setFlags_carry s ..⟩

/-! ## Sums and differences -/

theorem add8_z (a b : Byte) (ci : Bool) :
    (add8 a b ci).z = decide ((a.toNat + b.toNat + ci.toNat) % 256 = 0) := by
  simp only [add8, ← BitVec.toNat_inj, BitVec.toNat_ofNat]

theorem sub8_z (a b : Byte) (ci : Bool) :
    (sub8 a b ci).z = decide (((a.toNat : Int) - b.toNat - ci.toNat) % 256 = 0) := by
  simp only [sub8, decide_eq_decide, ← BitVec.toNat_inj, BitVec.toNat_ofInt, BitVec.toNat_ofNat]
  omega

theorem carryIn_toNat (cy : Bool) : (if cy then 1 else 0) = cy.toNat := by cases cy <;> rfl

/-- ADD and ADC are Add8 with the carry-in of the rule (R273, R274). -/
theorem aluCompute_eq_add8 {op : AluOp} {cy : Bool} {ci : Nat}
    (h : (op = .add ∧ ci = 0) ∨ (op = .adc ∧ ci = if cy then 1 else 0)) :
    ∃ c : Bool, ci = c.toNat ∧ op ≠ .cp ∧ ∀ a b, aluCompute op a b cy = add8 a b c := by
  obtain ⟨rfl, rfl⟩ | ⟨rfl, rfl⟩ := h
  · exact ⟨false, rfl, nofun, fun _ _ => rfl⟩
  · exact ⟨cy, carryIn_toNat cy, nofun, fun _ _ => rfl⟩

/-- SUB, CP and SBC are Sub8 with the carry-in of the rule (R275, R276, R280). -/
theorem aluCompute_eq_sub8 {op : AluOp} {cy : Bool} {ci : Nat}
    (h : ((op = .sub ∨ op = .cp) ∧ ci = 0) ∨ (op = .sbc ∧ ci = if cy then 1 else 0)) :
    ∃ c : Bool, ci = c.toNat ∧ ∀ a b, aluCompute op a b cy = sub8 a b c := by
  obtain ⟨rfl | rfl, rfl⟩ | ⟨rfl, rfl⟩ := h
  · exact ⟨false, rfl, fun _ _ => rfl⟩
  · exact ⟨false, rfl, fun _ _ => rfl⟩
  · exact ⟨cy, carryIn_toNat cy, fun _ _ => rfl⟩

/-- Settles O43: ADD and ADC compute Add8. -/
theorem addAdcComplete : Obligations.AddAdcComplete := by
  unfold Obligations.AddAdcComplete
  intro added op s ci hop
  obtain ⟨c, rfl, hcp, hadd⟩ := aluCompute_eq_add8 hop
  refine aluCompletes (Q := fun s1 t v n => added s1 t v c.toNat n) fun s1 v n hcy => ?_
  rw [← hcy] at hadd
  obtain ⟨hframe, ha, hz, hn, hh, hc⟩ := State.alu_addCycles (hadd s1.a v) (n := n) rfl
  exact ⟨hframe, ha.trans (if_neg hcp), hz.trans (add8_z ..), hn, hh, hc⟩

/-- Settles O44: SUB, SBC and CP compute Sub8. -/
theorem subSbcCpComplete : Obligations.SubSbcCpComplete := by
  unfold Obligations.SubSbcCpComplete
  intro subtracted op s ci hop
  obtain ⟨c, rfl, hsub⟩ := aluCompute_eq_sub8 hop
  refine aluCompletes (Q := fun s1 t v n => subtracted op s1 t v c.toNat n) fun s1 v n hcy => ?_
  rw [← hcy] at hsub
  obtain ⟨hframe, ha, hz, hn, hh, hc⟩ := State.alu_addCycles (hsub s1.a v) (n := n) rfl
  exact ⟨hframe, ha, hz.trans (sub8_z ..), hn, hh, hc⟩

/-! ## The logic group -/

/-- AND, XOR and OR combine the bits and write the flags of `logic8` (R277-R279). -/
theorem aluCompute_eq_logic8 {op : AluOp} (h : op = .and ∨ op = .xor ∨ op = .or) (a b : Byte) (cy : Bool) :
    ∃ r : Byte, aluCompute op a b cy = logic8 r (decide (op = .and)) ∧
      ∀ k, r.getLsbD k =
        if op = .and then a.getLsbD k && b.getLsbD k
        else if op = .xor then a.getLsbD k != b.getLsbD k
        else a.getLsbD k || b.getLsbD k := by
  obtain rfl | rfl | rfl := h
  · exact ⟨a &&& b, rfl, fun _ => BitVec.getLsbD_and⟩
  · exact ⟨a ^^^ b, rfl, fun _ => BitVec.getLsbD_xor⟩
  · exact ⟨a ||| b, rfl, fun _ => BitVec.getLsbD_or⟩

/-- Settles O45: AND, XOR and OR write the flags of a logic operation. -/
theorem logicCompletes : Obligations.LogicCompletes := by
  unfold Obligations.LogicCompletes
  intro combined op s hop
  have hcp : op ≠ .cp := by
    rintro rfl
    simp at hop
  refine aluCompletes (Q := fun s1 t v n => combined op s1 t v n) fun s1 v n _ => ?_
  obtain ⟨r, hr, hbits⟩ := aluCompute_eq_logic8 hop s1.a v (s1.flag .carry)
  obtain ⟨hframe, ha, hz, hn, hh, hc⟩ := State.alu_addCycles hr (n := n) rfl
  have har := ha.trans (if_neg hcp)
  exact ⟨hframe, fun k => har ▸ hbits k, har ▸ hz, hn, hh, hc⟩

end Sys2Proof.Machine
end

section
/-! PROOFS. INC and DEC, DAA, CPL, SCF and CCF (41_alu8.md R281-R288): O46, O47 and O48. -/

namespace Sys2Proof.Machine

variable {s t u : State} {o : Operand} {v : Byte}

/-! ## INC and DEC -/

theorem toNat_and_0x0F (v : Byte) : (v &&& 0x0F#8).toNat = v.toNat % 16 := by
  rw [BitVec.toNat_and]
  exact Nat.and_two_pow_sub_one_eq_mod v.toNat 4

theorem and_0x0F_eq_iff (v w : Byte) : v &&& 0x0F#8 = w ↔ v.toNat % 16 = w.toNat := by
  rw [← BitVec.toNat_inj, toNat_and_0x0F]

theorem writeOperand_ok_f (h : writeOperand o v s = .ok () t) : t.f = s.f := by
  cases o with
  | reg r =>
    cases h
    exact s.setReg_f r v
  | memHl =>
    have hw : WriteKeeps s t := memWrite_ok h
    rw [hw.1]

/-- The flags an operand's step starts from are those before its two accesses. -/
theorem flag_carry_of_operand {w : Byte} (hr : readOperand o s = .ok v t) (hw : writeOperand o w t = .ok () u) :
    u.flag .carry = s.flag .carry := by
  rw [← (readOperand_ok hr).flag .carry, State.flag, writeOperand_ok_f hw]
  rfl

/-- The pseudocode INC and DEC share: read the operand, write it back with `delta` added, then write Z, N and
Hf and leave Cy. -/
def stepOperand (o : Operand) (delta : Byte) (n : Bool) (half : Byte → Bool) : Exec Unit := do
  let v ← readOperand o
  writeOperand o (v + delta)
  update fun s => s.setFlags (decide (v + delta = 0x00#8)) n (half v) (s.flag .carry)

theorem incOperand_eq (o : Operand) :
    incOperand o = stepOperand o 0x01#8 false fun v => decide (v.toNat % 16 = 15) := by
  have hhalf (v : Byte) : (v &&& 0x0F#8 = 0x0F#8) = (v.toNat % 16 = 15) := propext (and_0x0F_eq_iff v 0x0F#8)
  simp only [incOperand, State.incFlags, stepOperand, hhalf]

theorem decOperand_eq (o : Operand) :
    decOperand o = stepOperand o 0xFF#8 true fun v => decide (v.toNat % 16 = 0) := by
  have hhalf (v : Byte) : (v &&& 0x0F#8 = 0x00#8) = (v.toNat % 16 = 0) := propext (and_0x0F_eq_iff v 0x00#8)
  have hsub (v : Byte) : v - 1#8 = v + 0xFF#8 := BitVec.sub_eq_add_neg v 1#8
  simp only [decOperand, State.decFlags, stepOperand, hhalf, hsub]

/-- The three ways through such a pseudocode: the read stops, the write stops, or it completes. -/
theorem exec_stepOperand {i : Instr} {delta : Byte} {n : Bool} {half : Byte → Bool}
    (hx : exec i s = complete i (taking (cyclesOn o 4 12) (stepOperand o delta n half)) s) :
    (∀ why s1, readOperand o s = .error why s1 → exec i s = .next (stopped i s s1 why)) ∧
    (∀ v s1, readOperand o s = .ok v s1 →
      (∀ why s2, writeOperand o (v + delta) s1 = .error why s2 → exec i s = .next (stopped i s s2 why)) ∧
      (∀ s2, writeOperand o (v + delta) s1 = .ok () s2 →
        ∃ t, exec i s = .next t ∧
          t = { s2 with f := t.f, cycles := s2.cycles + if o = .memHl then 12 else 4 } ∧
          t.flag .zero = decide (v + delta = 0x00#8) ∧ t.flag .subtract = n ∧
          t.flag .halfCarry = half v ∧ t.flag .carry = s.flag .carry)) := by
  rw [cyclesOn_eq_ite] at hx
  refine ⟨fun why s1 hr => ?_, fun v s1 hr => ⟨fun why s2 hw => ?_, fun s2 hw => ?_⟩⟩
  · exact exec_of_error hx (Exec.bind_of_error hr)
  · exact exec_of_error hx ((Exec.bind_of_ok hr).trans (Exec.bind_of_error hw))
  · exact ⟨_, exec_of_ok hx ((Exec.bind_of_ok hr).trans (Exec.bind_of_ok hw)), rfl,
      s2.flag_setFlags_zero .., s2.flag_setFlags_subtract .., s2.flag_setFlags_halfCarry ..,
      (s2.flag_setFlags_carry ..).trans (flag_carry_of_operand hr hw)⟩

/-- Settles O46: INC and DEC step their operand by 1 and by -1 modulo 256. -/
theorem incDecComplete : Obligations.IncDecComplete := by
  unfold Obligations.IncDecComplete
  exact fun o => ⟨encode_incOperand o, fun s => exec_stepOperand (incOperand_eq o ▸ exec_incOperand o s),
    encode_decOperand o, fun s => exec_stepOperand (decOperand_eq o ▸ exec_decOperand o s)⟩

/-! ## DAA, CPL, SCF and CCF -/

/-- DAA after an addition (R285), on unbounded integers: the correction of the high digit does not move the
low digit that decides the other. -/
theorem daaAdjust_of_add {a : Byte} {h c high low : Bool} (hhigh : high = (c || decide (a.toNat > 0x99)))
    (hlow : low = (h || decide (a.toNat % 16 > 9))) :
    daaAdjust a false h c =
      (byteOf (a.toNat + (if high then 0x60 else 0) + (if low then 0x06 else 0)), high) := by
  have hdigit : ((if high then a + 0x60#8 else a) &&& 0x0F#8).toNat = a.toNat % 16 := by
    rw [toNat_and_0x0F]
    cases high with
    | false => rfl
    | true => simp only [if_true]; bv_omega
  simp only [daaAdjust, Bool.false_eq_true, if_false, ← hhigh, hdigit, ← hlow, Prod.mk.injEq, and_true]
  apply BitVec.eq_of_toNat_eq
  cases high <;> cases low <;> simp [byteOf]

/-- DAA after a subtraction (R285), on unbounded integers. -/
theorem daaAdjust_of_sub (a : Byte) (h c : Bool) :
    daaAdjust a true h c =
      (BitVec.ofInt 8 ((a.toNat : Int) - (if c then 0x60 else 0) - (if h then 0x06 else 0)), c) := by
  simp only [daaAdjust, if_true, Prod.mk.injEq, and_true]
  apply BitVec.eq_of_toNat_eq
  cases h <;> cases c <;> simp [BitVec.toNat_ofInt, BitVec.toNat_sub] <;> omega

/-- DAA by the value of N. -/
theorem State.daa_eq {n : Bool} (hn : s.flag .subtract = n) :
    s.daa.a = (daaAdjust s.a n (s.flag .halfCarry) (s.flag .carry)).1 ∧
      s.daa.flag .carry = (daaAdjust s.a n (s.flag .halfCarry) (s.flag .carry)).2 := by
  subst hn
  exact ⟨rfl, s.flag_setFlags_carry ..⟩

theorem State.daa_of_add {high low : Bool} (hn : s.flag .subtract = false)
    (hhigh : high = (s.flag .carry || decide (s.a.toNat > 0x99)))
    (hlow : low = (s.flag .halfCarry || decide (s.a.toNat % 16 > 9))) :
    s.daa.a = byteOf (s.a.toNat + (if high then 0x60 else 0) + (if low then 0x06 else 0)) ∧
      s.daa.flag .carry = high := by
  have hdaa := State.daa_eq hn
  rwa [daaAdjust_of_add hhigh hlow] at hdaa

theorem State.daa_of_sub {high low : Bool} (hn : s.flag .subtract = true) (hhigh : high = s.flag .carry)
    (hlow : low = s.flag .halfCarry) :
    s.daa.a = BitVec.ofInt 8 ((s.a.toNat : Int) - (if high then 0x60 else 0) - (if low then 0x06 else 0)) ∧
      s.daa.flag .carry = s.flag .carry := by
  have hdaa := State.daa_eq hn
  rw [daaAdjust_of_sub, ← hhigh, ← hlow] at hdaa
  rwa [← hhigh]

theorem exec_daa (s : State) : exec .daa s = .next (s.daa.addCycles 4) := rfl

theorem exec_cpl (s : State) :
    exec .cpl s = .next ((State.setFlags { s with a := s.a ^^^ 0xFF#8 } (s.flag .zero) true true
      (s.flag .carry)).addCycles 4) := by
  have hnot : s.a ^^^ 0xFF#8 = ~~~s.a := BitVec.xor_allOnes
  rw [hnot]
  rfl

/-- Settles O47: DAA by its equations after an addition and after a subtraction, the others by the flags they
write. -/
theorem adjustAndFlagOpsComplete : Obligations.AdjustAndFlagOpsComplete := by
  unfold Obligations.AdjustAndFlagOpsComplete
  intro s
  exact ⟨⟨rfl, _, exec_daa s, rfl, fun high low => ⟨State.daa_of_add, State.daa_of_sub⟩,
      s.flag_setFlags_zero .., s.flag_setFlags_subtract .., s.flag_setFlags_halfCarry ..⟩,
    ⟨rfl, _, exec_cpl s, rfl, s.flag_setFlags_zero .., s.flag_setFlags_subtract ..,
      s.flag_setFlags_halfCarry .., s.flag_setFlags_carry ..⟩,
    ⟨rfl, _, rfl, rfl, s.flag_setFlags_zero .., s.flag_setFlags_subtract .., s.flag_setFlags_halfCarry ..,
      s.flag_setFlags_carry ..⟩,
    ⟨rfl, _, rfl, rfl, s.flag_setFlags_zero .., s.flag_setFlags_subtract .., s.flag_setFlags_halfCarry ..,
      s.flag_setFlags_carry ..⟩⟩

/-! ## DAA is decimal -/

/-- A number below 100 in BCD: its two decimal digits in the two nibbles. -/
def bcd (n : Nat) : Byte := byteOf (n / 10 * 16 + n % 10)

variable {x y : Nat}

theorem toNat_bcd (h : x < 100) : (bcd x).toNat = x / 10 * 16 + x % 10 := by
  rw [bcd, byteOf, BitVec.toNat_ofNat]
  omega

/-- After the sum of two BCD bytes DAA corrects the high digit exactly where the decimal sum reaches 100 and
the low digit exactly where the sum of the low digits reaches 10. -/
theorem State.daa_of_bcd_sum (hx : x < 100) (hy : y < 100) (hn : s.flag .subtract = false)
    (ha : s.a = (add8 (bcd x) (bcd y) false).result) (hh : s.flag .halfCarry = (add8 (bcd x) (bcd y) false).h)
    (hc : s.flag .carry = (add8 (bcd x) (bcd y) false).c) :
    s.daa.a = bcd ((x + y) % 100) ∧ s.daa.flag .carry = decide (100 ≤ x + y) := by
  simp only [add8, toNat_bcd hx, toNat_bcd hy, Bool.toNat_false, Nat.add_zero] at ha hh hc
  have hsum : s.a.toNat = (x / 10 * 16 + x % 10 + (y / 10 * 16 + y % 10)) % 256 := by
    rw [ha, BitVec.toNat_ofNat]
  have hhigh : decide (100 ≤ x + y) = (s.flag .carry || decide (s.a.toNat > 0x99)) := by
    rw [hc, hsum, ← Bool.decide_or, decide_eq_decide]
    have hcorrects (n : Nat) (hn : n < 512) : (n > 255 ∨ n % 256 > 0x99) ↔ n > 0x99 := by omega
    rw [hcorrects _ (by omega)]
    omega
  have hlow : decide (10 ≤ x % 10 + y % 10) = (s.flag .halfCarry || decide (s.a.toNat % 16 > 9)) := by
    rw [hh, hsum, ← Bool.decide_or, decide_eq_decide]
    omega
  obtain ⟨hdaa, hcarry⟩ := State.daa_of_add hn hhigh hlow
  refine ⟨hdaa.trans (BitVec.eq_of_toNat_eq ?_), hcarry⟩
  simp only [bcd, byteOf, BitVec.toNat_ofNat, hsum, decide_eq_true_eq]
  split <;> split <;> omega

/-- After the difference of two BCD bytes DAA takes 0x60 off where it borrowed and 0x06 off where the low digit
borrowed. -/
theorem State.daa_of_bcd_difference (hx : x < 100) (hy : y < 100) (hn : s.flag .subtract = true)
    (ha : s.a = (sub8 (bcd x) (bcd y) false).result) (hh : s.flag .halfCarry = (sub8 (bcd x) (bcd y) false).h)
    (hc : s.flag .carry = (sub8 (bcd x) (bcd y) false).c) :
    s.daa.a = bcd ((x + 100 - y) % 100) ∧ s.daa.flag .carry = s.flag .carry ∧
      s.daa.flag .carry = decide (x < y) := by
  simp only [sub8, toNat_bcd hx, toNat_bcd hy, Bool.toNat_false] at ha hh hc
  have hhigh : decide (x < y) = s.flag .carry := by
    rw [hc, decide_eq_decide]
    omega
  have hlow : decide (x % 10 < y % 10) = s.flag .halfCarry := by
    rw [hh, decide_eq_decide]
    omega
  obtain ⟨hdaa, hcarry⟩ := State.daa_of_sub hn hhigh hlow
  refine ⟨hdaa.trans (BitVec.eq_of_toNat_eq ?_), hcarry, hcarry.trans hhigh.symm⟩
  simp only [bcd, byteOf, BitVec.toNat_ofNat, BitVec.toNat_ofInt, ha, decide_eq_true_eq]
  split <;> split <;> omega

/-- Settles O48: the immediate ADD and SUB leave the sum and the difference of the two BCD bytes, which DAA
corrects digit by digit. -/
theorem daaIsDecimal : Obligations.DaaIsDecimal := by
  unfold Obligations.DaaIsDecimal
  intro bcdOf x y s hx hy ha
  have hadd : aluCompute .add s.a (bcd y) (s.flag .carry) = add8 (bcd x) (bcd y) false :=
    congrArg (add8 · _ _) ha
  have hsub : aluCompute .sub s.a (bcd y) (s.flag .carry) = sub8 (bcd x) (bcd y) false :=
    congrArg (sub8 · _ _) ha
  refine ⟨⟨_, _, exec_aluD8 .add (bcd y) s, exec_daa _, ?_⟩,
    ⟨_, _, exec_aluD8 .sub (bcd y) s, exec_daa _, ?_⟩⟩
  · obtain ⟨-, ha1, -, hn, hh, hc⟩ := State.alu_addCycles hadd rfl
    exact State.daa_of_bcd_sum hx hy hn ha1 hh hc
  · obtain ⟨-, ha1, -, hn, hh, hc⟩ := State.alu_addCycles hsub rfl
    exact State.daa_of_bcd_difference hx hy hn ha1 hh hc

end Sys2Proof.Machine
end

section
/-! PROOFS. 16-bit arithmetic (42_alu16.md R310-R316): O49 and O50. -/

namespace Sys2Proof.Machine

variable {s t : State}

/-- The four flags an instruction leaves where it ends by writing those of a result. -/
theorem State.flags_withFlagsOf {w n : Nat} {r : FlagResult w} (ht : t = (s.withFlagsOf r).addCycles n) :
    t.flag .zero = r.z ∧ t.flag .subtract = r.n ∧ t.flag .halfCarry = r.h ∧ t.flag .carry = r.c := by
  subst ht
  exact ⟨s.flag_setFlags_zero .., s.flag_setFlags_subtract .., s.flag_setFlags_halfCarry ..,
    s.flag_setFlags_carry ..⟩

theorem State.hl_setHl (s : State) (v : Word) : (s.setHl v).hl = v := joinBytes_high_low v

/-! ## Pairs -/

theorem add16_z_of_result {mode : Add16ZMode} (h : mode = .result) (z : Bool) (a b : Word) :
    (add16 mode z a b).z = decide ((a.toNat + b.toNat) % 65536 = 0) := by
  subst h
  simp only [add16, ← BitVec.toNat_inj, BitVec.toNat_ofNat]

theorem add16_z_of_preserve {mode : Add16ZMode} (h : mode = .preserve) (z : Bool) (a b : Word) :
    (add16 mode z a b).z = z := by
  subst h
  rfl

theorem word_sub_one (w : Word) : w - 1#16 = BitVec.ofNat 16 (w.toNat + 65535) :=
  BitVec.sub_eq_add_neg w 1#16

theorem exec_addHlPair (p : Pair) (s : State) :
    exec (Instr.addHlPair p) s = complete (Instr.addHlPair p) (taking 8 (addHl p)) s := by cases p <;> rfl

theorem exec_incPair (p : Pair) (s : State) :
    exec (Instr.incPair p) s = complete (Instr.incPair p) (taking 8 (incPair p)) s := by cases p <;> rfl

theorem exec_decPair (p : Pair) (s : State) :
    exec (Instr.decPair p) s = complete (Instr.decPair p) (taking 8 (decPair p)) s := by cases p <;> rfl

/-- Settles O49: ADD HL,rr computes Add16, with the Zero flag by the mode; INC rr and DEC rr update the pair
alone. -/
theorem pairArithmeticCompletes : Obligations.PairArithmeticCompletes := by
  unfold Obligations.PairArithmeticCompletes
  refine ⟨fun p s => ⟨encode_addHlPair p, _, exec_of_ok (exec_addHlPair p s) rfl, ?_⟩,
    fun p s => ⟨encode_incPair p, exec_of_ok (exec_incPair p s) rfl⟩,
    fun p s => ⟨encode_decPair p, exec_of_ok (exec_decPair p s) ?_⟩⟩
  · obtain ⟨hz, hn, hh, hc⟩ :=
      State.flags_withFlagsOf (r := add16 s.cfg.add16Z (s.flag .zero) s.hl (s.getPair p)) rfl
    refine ⟨rfl, s.hl_setHl _, hz.trans ?_, hn, hh, hc⟩
    split
    next hmode => exact add16_z_of_result hmode ..
    next hmode => exact add16_z_of_preserve hmode ..
  · rw [← word_sub_one]
    rfl

/-! ## SP with a signed offset -/

/-- The sum of a word and a signed byte, on unbounded integers (R315, R316). -/
theorem add_signExtendByte (w : Word) (e : Byte) :
    w + signExtendByte e = BitVec.ofInt 16 ((w.toNat : Int) + e.toInt) := by
  rw [BitVec.ofInt_add, BitVec.ofInt_natCast, BitVec.ofNat_toNat, BitVec.setWidth_eq]
  rfl

/-- Settles O50: both forms compute SPOff and differ in the register that takes its result. -/
theorem spOffsetCompletes : Obligations.SpOffsetCompletes := by
  unfold Obligations.SpOffsetCompletes
  rintro e s _ rfl
  rw [← add_signExtendByte]
  exact ⟨⟨rfl, _, rfl, rfl, State.flags_withFlagsOf (r := spOffset s.sp e) rfl⟩,
    ⟨rfl, _, rfl, rfl, s.hl_setHl _, State.flags_withFlagsOf (r := spOffset s.sp e) rfl⟩⟩

end Sys2Proof.Machine
end

section
/-! PROOFS. Rotates, shifts and bits (43_rotate_shift_bit.md R330-R347): the bits of each result, and what an
instruction leaves that reads its operand and writes it back: O51, O52 and O53. -/

namespace Sys2Proof.Machine

variable {s t : State} {v : Byte} {k : Nat}

/-! ## The bits of a rotate or shift -/

/-- Bit `k` of the result of a rotate or shift (R347), by the bit of the operand it comes from. -/
def rotatedBit (op : RotOp) (v : Byte) (cy : Bool) (k : Nat) : Bool :=
  match op with
  | .rlc => v.getLsbD ((k + 7) % 8)
  | .rrc => v.getLsbD ((k + 1) % 8)
  | .rl => if k = 0 then cy else v.getLsbD (k - 1)
  | .rr => if k = 7 then cy else v.getLsbD (k + 1)
  | .sla => if k = 0 then false else v.getLsbD (k - 1)
  | .sra => if k = 7 then v.getLsbD 7 else v.getLsbD (k + 1)
  | .swap => v.getLsbD ((k + 4) % 8)
  | .srl => if k = 7 then false else v.getLsbD (k + 1)

/-- Two shifts that together move a byte by its width rotate it. -/
theorem getLsbD_shiftLeft_or_ushiftRight {m n : Nat} (hmn : m + n = 8) (hk : k < 8) (v : Byte) :
    (v <<< m ||| v >>> n).getLsbD k = v.getLsbD ((k + n) % 8) := by
  rw [BitVec.getLsbD_or, BitVec.getLsbD_shiftLeft, BitVec.getLsbD_ushiftRight]
  by_cases hkm : k < m
  · have hsrc : (k + n) % 8 = n + k := by omega
    simp [hkm, hsrc]
  · have hsrc : (k + n) % 8 = k - m := by omega
    have hout : v.getLsbD (n + k) = false := v.getLsbD_of_ge _ (by omega)
    simp [hk, hkm, hsrc, hout]

theorem getLsbD_shiftLeft_one (hk : k < 8) (v : Byte) :
    (v <<< 1).getLsbD k = if k = 0 then false else v.getLsbD (k - 1) := by
  rw [BitVec.getLsbD_shiftLeft]
  split <;> simp [*]

theorem getLsbD_ushiftRight_one (v : Byte) :
    (v >>> 1).getLsbD k = if k = 7 then false else v.getLsbD (k + 1) := by
  rw [BitVec.getLsbD_ushiftRight, Nat.add_comm]
  split
  next h7 => exact v.getLsbD_of_ge _ (by omega)
  next => rfl

/-- RL shifts the carry into bit 0. -/
theorem getLsbD_carry (hk : k < 8) (cy : Bool) :
    ((BitVec.ofBool cy).setWidth 8).getLsbD k = (decide (k = 0) && cy) := by
  simp [hk, BitVec.getLsbD_ofBool]

/-- RR shifts the carry into bit 7. -/
theorem getLsbD_carry_shiftLeft_seven (hk : k < 8) (cy : Bool) :
    ((BitVec.ofBool cy).setWidth 8 <<< 7).getLsbD k = (decide (k = 7) && cy) := by
  rw [BitVec.getLsbD_shiftLeft, getLsbD_carry (by omega)]
  grind

/-- SRA keeps bit 7. -/
theorem getLsbD_and_0x80 (v : Byte) : (v &&& 0x80#8).getLsbD k = (decide (k = 7) && v.getLsbD 7) := by
  have hmask : (0x80#8).getLsbD k = decide (7 = k) := BitVec.getLsbD_twoPow 7 k
  rw [BitVec.getLsbD_and, hmask]
  grind

theorem getLsbD_rotCompute (op : RotOp) (v : Byte) (cy : Bool) (hk : k < 8) :
    (rotCompute op v cy).1.getLsbD k = rotatedBit op v cy k := by
  cases op with
  | rlc => exact getLsbD_shiftLeft_or_ushiftRight rfl hk v
  | rrc =>
    rw [rotCompute, BitVec.or_comm]
    exact getLsbD_shiftLeft_or_ushiftRight rfl hk v
  | rl =>
    rw [rotCompute, BitVec.getLsbD_or, getLsbD_shiftLeft_one hk, getLsbD_carry hk, rotatedBit]
    split <;> simp [*]
  | rr =>
    rw [rotCompute, BitVec.getLsbD_or, getLsbD_ushiftRight_one, getLsbD_carry_shiftLeft_seven hk, rotatedBit]
    split <;> simp [*]
  | sla => exact getLsbD_shiftLeft_one hk v
  | sra =>
    rw [rotCompute, BitVec.getLsbD_or, getLsbD_ushiftRight_one, getLsbD_and_0x80, rotatedBit]
    split <;> simp [*]
  | swap => exact getLsbD_shiftLeft_or_ushiftRight rfl hk v
  | srl => exact getLsbD_ushiftRight_one v

/-! ## The accumulator rotates -/

/-- The four flags an instruction leaves where it ends by writing them. -/
theorem State.flags_setFlags {z n h c : Bool} {m : Nat} (ht : t = (s.setFlags z n h c).addCycles m) :
    t.flag .zero = z ∧ t.flag .subtract = n ∧ t.flag .halfCarry = h ∧ t.flag .carry = c := by
  subst ht
  exact ⟨s.flag_setFlags_zero .., s.flag_setFlags_subtract .., s.flag_setFlags_halfCarry ..,
    s.flag_setFlags_carry ..⟩

/-- Settles O51: each is the rotate of A, with Z by the mode. -/
theorem accumulatorRotatesComplete : Obligations.AccumulatorRotatesComplete := by
  unfold Obligations.AccumulatorRotatesComplete
  intro rotated
  have hrotated (i : Instr) (op : RotOp) (byte : Byte) (he : encode i = [byte])
      (hx : ∀ s, exec i s = complete i (taking 4 (accRotate op)) s) :
      rotated i byte (fun s => rotatedBit op s.a (s.flag .carry))
        (fun s => (rotCompute op s.a (s.flag .carry)).2) :=
    ⟨he, fun s => ⟨_, exec_of_ok (hx s) rfl, rfl, fun k hk => getLsbD_rotCompute op s.a (s.flag .carry) hk,
      State.flags_setFlags (s := { s with a := (rotCompute op s.a (s.flag .carry)).1 }) rfl⟩⟩
  exact ⟨hrotated .rlca .rlc _ rfl fun _ => rfl, hrotated .rrca .rrc _ rfl fun _ => rfl,
    hrotated .rla .rl _ rfl fun _ => rfl, hrotated .rra .rr _ rfl fun _ => rfl⟩

/-! ## The CB rotates and shifts -/

variable {o : Operand}

/-- After the read, a rotate writes its result and then the flags; the carry it starts from is that before the
read. -/
theorem rotateOperand_of_read {op : RotOp} {r : Byte} {c : Bool} (hr : readOperand o s = .ok v t)
    (hrot : rotCompute op v (s.flag .carry) = (r, c)) :
    rotateOperand op o s =
      (writeOperand o r >>= fun _ => update (State.setFlags · (decide (r = 0x00#8)) false false c)) t := by
  rw [← (readOperand_ok hr).flag .carry] at hrot
  rw [rotateOperand, Exec.bind_of_ok hr, Exec.look_bind, hrot]

/-- Settles O52: the ways through the pseudocode, and the bits of the result. -/
theorem cbRotatesComplete : Obligations.CbRotatesComplete := by
  unfold Obligations.CbRotatesComplete
  rintro bits out op o s _ rfl
  have hx := exec_rotOperand op o s
  rw [cyclesOn_eq_ite] at hx
  refine ⟨encode_rotOperand op o, fun why s1 hr => exec_of_error hx (Exec.bind_of_error hr),
    fun v s1 hr => ?_⟩
  have hrot : rotCompute op v (s.flag .carry) = ((rotCompute op v (s.flag .carry)).1, out op v) := by
    cases op <;> rfl
  have hbody := rotateOperand_of_read hr hrot
  refine ⟨_, fun k hk => getLsbD_rotCompute op v (s.flag .carry) hk, fun why s2 hw => ?_, fun s2 hw => ?_⟩
  · exact exec_of_error hx (hbody.trans (Exec.bind_of_error hw))
  · exact ⟨_, exec_of_ok hx (hbody.trans (Exec.bind_of_ok hw)), rfl, State.flags_setFlags rfl⟩

/-! ## BIT, RES and SET -/

variable {b : Octal}

theorem getLsbD_bitMask (b : Octal) (k : Nat) : (bitMask b).getLsbD k = decide (k = b.value) := by
  have hlt : b.value < 8 := by cases b <;> decide
  have hmask : (bitMask b).getLsbD k = (decide (b.value < 8) && decide (b.value = k)) :=
    BitVec.getLsbD_twoPow b.value k
  simp [hmask, hlt, eq_comm]

theorem getLsbD_and_not_bitMask (b : Octal) (v : Byte) (hk : k < 8) :
    (v &&& ~~~bitMask b).getLsbD k = if k = b.value then false else v.getLsbD k := by
  rw [BitVec.getLsbD_and, BitVec.getLsbD_not, getLsbD_bitMask]
  split <;> simp [*]

theorem getLsbD_or_bitMask (b : Octal) (v : Byte) (k : Nat) :
    (v ||| bitMask b).getLsbD k = if k = b.value then true else v.getLsbD k := by
  rw [BitVec.getLsbD_or, getLsbD_bitMask]
  split <;> simp [*]

/-- A completed BIT leaves the state after the read, but for the flags and CYCLES. -/
theorem exec_bit_of_ok (hr : readOperand o s = .ok v t) :
    exec (Instr.bit b o) s = .next ((t.setFlags (!v.getLsbD b.value) false true (s.flag .carry)).addCycles
      (if o = .memHl then 12 else 8)) := by
  rw [← cyclesOn_eq_ite, ← (readOperand_ok hr).flag .carry]
  exact exec_of_ok (exec_bit b o s) (Exec.bind_of_ok hr)

/-- The three ways through the pseudocode RES and SET share, for the bit `x` they write: the read stops, the
write stops, or it completes. -/
theorem exec_writeBack {i : Instr} {g : Byte → Byte} {x : Bool}
    (hx : exec i s = complete i (taking (cyclesOn o 8 16) (readOperand o >>= fun v => writeOperand o (g v))) s)
    (hg : ∀ v k, k < 8 → (g v).getLsbD k = if k = b.value then x else v.getLsbD k) :
    (∀ why s1, readOperand o s = .error why s1 → exec i s = .next (stopped i s s1 why)) ∧
    (∀ v s1, readOperand o s = .ok v s1 →
      ∃ r : Byte, (∀ k, k < 8 → r.getLsbD k = if k = b.value then x else v.getLsbD k) ∧
        (∀ why s2, writeOperand o r s1 = .error why s2 → exec i s = .next (stopped i s s2 why)) ∧
        (∀ s2, writeOperand o r s1 = .ok () s2 →
          exec i s = .next (s2.addCycles (if o = .memHl then 16 else 8)))) := by
  rw [cyclesOn_eq_ite] at hx
  refine ⟨fun why s1 hr => ?_, fun v s1 hr => ⟨g v, hg v, fun why s2 hw => ?_, fun s2 hw => ?_⟩⟩
  · exact exec_of_error hx (Exec.bind_of_error hr)
  · exact exec_of_error hx ((Exec.bind_of_ok hr).trans hw)
  · exact exec_of_ok hx ((Exec.bind_of_ok hr).trans hw)

/-- Settles O53: BIT reads and writes flags alone; RES and SET write back the operand with one bit changed. -/
theorem bitResSetComplete : Obligations.BitResSetComplete := by
  unfold Obligations.BitResSetComplete
  refine fun b o s => ⟨⟨encode_bit b o, fun why s1 hr => ?_, fun v s1 hr => ?_⟩, ?_⟩
  · exact exec_of_error (exec_bit b o s) (Exec.bind_of_error hr)
  · exact ⟨_, exec_bit_of_ok hr, rfl, State.flags_setFlags rfl⟩
  · rintro i x base (⟨rfl, rfl, rfl⟩ | ⟨rfl, rfl, rfl⟩)
    · exact ⟨encode_res b o, exec_writeBack (exec_res b o s) fun v _ => getLsbD_and_not_bitMask b v⟩
    · exact ⟨encode_set b o, exec_writeBack (exec_set b o s) fun v k _ => getLsbD_or_bitMask b v k⟩

end Sys2Proof.Machine
end

section
/-! PROOFS. Control transfer (44_control.md R370-R381): jumps, calls, restarts and returns, conditional or not,
and that a return undoes a call where the stack is storage: O54 to O57. -/

namespace Sys2Proof.Machine

variable {s t : State} {i : Instr} {n m : Nat} {body : Exec Unit} {v : Word} {why : Stop}

/-! ## Conditional forms -/

/-- The condition of a conditional form, as a statement about the flags (R370). -/
def State.Meets (s : State) (cc : Cond) : Prop :=
  match cc with
  | .nz => s.flag .zero = false
  | .z => s.flag .zero = true
  | .nc => s.flag .carry = false
  | .c => s.flag .carry = true

theorem State.holds_eq_true_iff (cc : Cond) : s.holds cc = true ↔ s.Meets cc := by
  cases cc with
  | nz | nc => exact iff_of_eq (Bool.not_eq_true' _)
  | z | c => exact Iff.rfl

/-- A conditional form whose condition holds runs as the unconditional form does. -/
theorem exec_branch_of_meets {cc : Cond} (hx : exec i s = complete i (branch cc n m body) s)
    (h : s.Meets cc) : exec i s = complete i (taking n body) s := by
  rw [hx, complete, branch_of_holds ((State.holds_eq_true_iff cc).mpr h), ← complete]

/-- One whose condition does not hold takes its cycles and does nothing else. -/
theorem exec_branch_of_not_meets {cc : Cond} (hx : exec i s = complete i (branch cc n m body) s)
    (h : ¬ s.Meets cc) : exec i s = .next (s.addCycles m) := by
  rw [← State.holds_eq_true_iff, Bool.not_eq_true] at h
  exact hx.trans (complete_of_ok (branch_of_not_holds h))

theorem exec_jpCond (cc : Cond) (a : Word) (s : State) :
    exec (Instr.jpCond cc a) s = complete (Instr.jpCond cc a) (branch cc 16 12 (jump a)) s := by
  cases cc <;> rfl

theorem exec_jrCond (cc : Cond) (e : Byte) (s : State) :
    exec (Instr.jrCond cc e) s = complete (Instr.jrCond cc e) (branch cc 12 8 (jumpRel e)) s := by
  cases cc <;> rfl

theorem exec_callCond (cc : Cond) (a : Word) (s : State) :
    exec (Instr.callCond cc a) s = complete (Instr.callCond cc a) (branch cc 24 12 (call a)) s := by
  cases cc <;> rfl

theorem exec_retCond (cc : Cond) (s : State) :
    exec (Instr.retCond cc) s = complete (Instr.retCond cc) (branch cc 20 8 return16) s := by
  cases cc <;> rfl

/-! ## Jumps -/

theorem jumpRel_apply (e : Byte) (s : State) :
    jumpRel e s = .ok () (s.setPc (BitVec.ofInt 16 ((s.pc.toNat : Int) + e.toInt))) := by
  rw [jumpRel, update_apply, add_signExtendByte]

/-- Settles O54: a jump taken is one write of PC, and none stops. -/
theorem jumpsComplete : Obligations.JumpsComplete := by
  unfold Obligations.JumpsComplete
  refine ⟨fun lo hi s => ⟨imm16_bytes _ hi lo, exec_of_ok (body := jump (hi ++ lo)) rfl rfl⟩,
    fun s => ⟨rfl, exec_of_ok (body := jumpHl) rfl rfl⟩,
    fun e s => ⟨rfl, exec_of_ok rfl (jumpRel_apply e s)⟩,
    fun cc lo hi s => ⟨(encode_jpCond cc _).trans (imm16_bytes _ hi lo), fun h => ?_, fun h => ?_⟩,
    fun cc e s => ⟨encode_jrCond cc e, fun h => ?_, fun h => ?_⟩⟩
  · exact exec_of_ok (exec_branch_of_meets (exec_jpCond cc (hi ++ lo) s) h) rfl
  · exact exec_branch_of_not_meets (exec_jpCond cc (hi ++ lo) s) h
  · exact exec_of_ok (exec_branch_of_meets (exec_jrCond cc e s) h) (jumpRel_apply e s)
  · exact exec_branch_of_not_meets (exec_jrCond cc e s) h

/-! ## Calls and restarts -/

theorem call_of_ok (a : Word) (h : push16 s.pc s = .ok () t) : call a s = .ok () (t.setPc a) := by
  rw [call, Exec.look_bind, Exec.bind_of_ok h, jump, update_apply]

theorem call_of_error (a : Word) (h : push16 s.pc s = .error why t) : call a s = .error why t := by
  rw [call, Exec.look_bind, Exec.bind_of_error h]

theorem push16_pc_of_error (h : push16 v s = .error why t) : t.pc = s.pc := by
  have hkeeps := (Part.Unwritten.keptByAccess .pc).push16 (Part.Unwritten.keptBy (by decide)) v s
  rwa [h] at hkeeps

/-- A call completes exactly where its push does, and jumps only then. -/
theorem exec_call {a : Word} (hx : exec i s = complete i (taking n (call a)) s) :
    (∀ s1, push16 s.pc s = .ok () s1 → exec i s = .next ((s1.setPc a).addCycles n)) ∧
    (∀ why s1, push16 s.pc s = .error why s1 →
      exec i s = .next (stopped i s s1 why) ∧ (stopped i s s1 why).pc = s.pc) := by
  refine ⟨fun s1 h => exec_of_ok hx (call_of_ok a h), fun why s1 h => ⟨?_, ?_⟩⟩
  · exact exec_of_error hx (call_of_error a h)
  · exact (s1.endRun_pc why _ _).trans (push16_pc_of_error h)

theorem exec_rst (t : Octal) (s : State) :
    exec (Instr.rst t) s =
      complete (Instr.rst t) (taking 16 (call (BitVec.ofNat 16 (8 * t.value)))) s := by cases t <;> rfl

/-- Settles O55: every form that is taken is a call of its target. -/
theorem callsComplete : Obligations.CallsComplete := by
  unfold Obligations.CallsComplete
  refine ⟨fun lo hi s => ⟨imm16_bytes _ hi lo, exec_call rfl⟩,
    fun cc lo hi s => ⟨(encode_callCond cc _).trans (imm16_bytes _ hi lo), fun h => ?_, fun h => ?_⟩,
    fun t s => ⟨encode_rst t, exec_call (exec_rst t s)⟩⟩
  · exact exec_call (exec_branch_of_meets (exec_callCond cc (hi ++ lo) s) h)
  · exact exec_branch_of_not_meets (exec_callCond cc (hi ++ lo) s) h

/-! ## Returns -/

theorem return16_of_ok (h : pop16 s = .ok v t) : return16 s = .ok () (t.setPc v) := by
  rw [return16, Exec.bind_of_ok h, jump, update_apply]

theorem return16_of_error (h : pop16 s = .error why t) : return16 s = .error why t :=
  Exec.bind_of_error h

theorem returnEnable_of_error (h : pop16 s = .error why t) : returnEnable s = .error why t :=
  Exec.bind_of_error (return16_of_error h)

theorem pop16_ime_of_error (h : pop16 s = .error why t) : t.ime = s.ime := by
  have hkeeps := (Part.Unwritten.keptByAccess .ime).pop16 (Part.Unwritten.keptBy (by decide)) s
  rwa [h] at hkeeps

/-- A form that pops PC, and then sets IME or not, completes exactly where its pop does; one that stops leaves
IME. -/
theorem exec_of_pop16 {enable : Bool} (hx : exec i s = complete i (taking n body) s)
    (hok : ∀ v t, pop16 s = .ok v t → body s = .ok () { t with pc := v, ime := t.ime || enable })
    (herror : ∀ why t, pop16 s = .error why t → body s = .error why t) :
    (∀ v s1, pop16 s = .ok v s1 →
      exec i s = .next { s1 with pc := v, ime := s1.ime || enable, cycles := s1.cycles + n }) ∧
    (∀ why s1, pop16 s = .error why s1 →
      exec i s = .next (stopped i s s1 why) ∧ (stopped i s s1 why).ime = s.ime) := by
  refine ⟨fun v s1 h => exec_of_ok hx (hok v s1 h), fun why s1 h => ⟨?_, ?_⟩⟩
  · exact exec_of_error hx (herror why s1 h)
  · exact (s1.endRun_ime why _ _).trans (pop16_ime_of_error h)

theorem return16_leaves_ime (h : pop16 s = .ok v t) :
    return16 s = .ok () { t with pc := v, ime := t.ime || false } := by
  rw [Bool.or_false]
  exact return16_of_ok h

theorem returnEnable_sets_ime (h : pop16 s = .ok v t) :
    returnEnable s = .ok () { t with pc := v, ime := t.ime || true } := by
  rw [Bool.or_true, returnEnable, Exec.bind_of_ok (return16_of_ok h)]
  rfl

/-- Settles O56: every form that is taken pops PC, and RETI goes on to set IME. -/
theorem returnsComplete : Obligations.ReturnsComplete := by
  unfold Obligations.ReturnsComplete
  refine ⟨fun s => ⟨rfl, exec_of_pop16 rfl (fun _ _ => return16_leaves_ime) fun _ _ => return16_of_error⟩,
    fun s => ⟨rfl, exec_of_pop16 rfl (fun _ _ => returnEnable_sets_ime) fun _ _ => returnEnable_of_error⟩,
    fun cc s => ⟨encode_retCond cc, fun h => ?_, fun h => ?_⟩⟩
  · exact exec_of_pop16 (exec_branch_of_meets (exec_retCond cc s) h) (fun _ _ => return16_leaves_ime)
      fun _ _ => return16_of_error
  · exact exec_branch_of_not_meets (exec_retCond cc s) h

/-! ## Return undoes call -/

theorem popByte_setPc (s : State) (p : Word) : popByte (s.setPc p) = pcResult p (popByte s) := by
  rw [popByte, Exec.look_bind, Exec.look_bind, State.setPc_sp, Exec.bind_apply, Exec.bind_apply, memRead_setPc]
  cases memRead s.sp s <;> rfl

theorem pop16_setPc (s : State) (p : Word) : pop16 (s.setPc p) = pcResult p (pop16 s) := by
  rw [pop16, Exec.bind_apply, Exec.bind_apply, popByte_setPc]
  cases popByte s with
  | error why t => rfl
  | ok lo t =>
    simp only [pcResult, Exec.bind_apply, popByte_setPc]
    cases popByte t <;> rfl

/-- Settles O57: neither the jump nor the cycles of the CALL touch what it pushed, so the pop of the RET undoes
the push. -/
theorem returnUndoesCall : Obligations.ReturnUndoesCall := by
  unfold Obligations.ReturnUndoesCall
  intro a s hwf h1 h2
  obtain ⟨t, hpush, hsp, hpop⟩ := pop16_undoes_push16 s.pc hwf h1 h2
  have hcall : exec (.callA16 a) s = .next ((t.setPc a).addCycles 24) := (exec_call rfl).1 t hpush
  have hpopAfter : pop16 (t.setPc a) = .ok s.pc ((t.setSp s.sp).setPc a) := by rw [pop16_setPc, hpop, pcResult]
  have hret := return16_of_ok (pop16_addCycles 24 hpopAfter)
  refine ⟨_, _, hcall, rfl, hsp, exec_of_ok (i := .ret) rfl hret, ?_⟩
  rw [← push16_cycles hpush]
  rfl

end Sys2Proof.Machine
end

section
/-! PROOFS. System (45_system.md R400-R406): the instructions that make no access complete in every state, and
the CB prefix runs the extended instruction its second byte names: O58 and O59. -/

namespace Sys2Proof.Machine

variable {s t : State}

/-! ## The prefix -/

/-- Completing a pseudocode reads the instruction's bytes alone, for the report of a stop (R432). -/
theorem complete_congr {i j : Instr} (h : encode i = encode j) (body : Exec Nat) (s : State) :
    complete i body s = complete j body s := by
  have hopcode : i.opcode = j.opcode := by rw [Instr.opcode, Instr.opcode, h]
  have hpc : s.firstByteOf i = s.firstByteOf j := by
    rw [State.firstByteOf, State.firstByteOf, Instr.length, Instr.length, h]
  rw [complete, complete, hopcode, hpc]

theorem extendedCycles_of_ne_one {x : BitVec 2} (h : x.toNat ≠ 1) (o : Operand) :
    extendedCycles x o = cyclesOn o 8 16 := by
  cases o with
  | reg r => rfl
  | memHl => exact if_neg fun hx => h (congrArg BitVec.toNat hx)

theorem extendedCycles_of_eq_one {x : BitVec 2} (h : x.toNat = 1) (o : Operand) :
    extendedCycles x o = cyclesOn o 8 12 := by
  obtain rfl : x = 1#2 := BitVec.eq_of_toNat_eq h
  cases o <;> rfl

/-- An extended instruction completes the body the prefix runs for its byte. -/
theorem exec_decodeExtended (cb : Byte) (s : State) :
    exec (decodeExtended cb) s = complete (decodeExtended cb) (extendedBody cb) s := by
  obtain hx | hx | hx | hx := fieldX_cases cb <;> simp only [decodeExtended, extendedBody, hx]
  · rw [extendedCycles_of_ne_one (by omega)]
    exact exec_rotOperand ..
  · rw [extendedCycles_of_eq_one hx]
    exact exec_bit ..
  · rw [extendedCycles_of_ne_one (by omega)]
    exact exec_res ..
  · rw [extendedCycles_of_ne_one (by omega)]
    exact exec_set ..

theorem exec_prefixCb (cb : Byte) (s : State) : exec (.prefixCb cb) s = exec (decodeExtended cb) s := by
  have hbytes : encode (.prefixCb cb) = encode (decodeExtended cb) := (encode_decodeExtended cb).symm
  rw [exec_decodeExtended]
  exact complete_congr hbytes (extendedBody cb) s

theorem step_of_prefix {cb : Byte} {s1 s2 : State} (hr : s.isRunning = true) (h1 : fetch8 s = .ok 0xCB#8 s1)
    (h2 : fetch8 s1 = .ok cb s2) : step s = exec (decodeExtended cb) s2 :=
  step_of_fetchBytes (bytes := [0xCB#8, cb]) hr rfl
    (fetchBytes_cons_ok.mpr ⟨s1, h1, fetchBytes_cons_ok.mpr ⟨s2, h2, rfl⟩⟩)

/-! ## The prefix where (HL) is accessible -/

/-- The cycles of the CB rows, byte by byte (70_reset_and_hazards.md R487). -/
theorem extendedCycles_fields (cb : Byte) :
    extendedCycles (fieldX cb) (Operand.ofCode (fieldZ cb)) =
      if cb.toNat % 8 ≠ 6 then 8 else if cb.toNat / 64 = 1 then 12 else 16 := by
  revert cb
  decide

/-- FAULT, MARK and CYCLES are as they were. -/
def SameStatus (s t : State) : Prop := t.fault = s.fault ∧ t.mark = s.mark ∧ t.cycles = s.cycles

theorem ReadKeeps.sameStatus (h : ReadKeeps s t) : SameStatus s t := by
  rw [h]
  exact ⟨rfl, rfl, rfl⟩

theorem WriteKeeps.sameStatus (h : WriteKeeps s t) : SameStatus s t := by
  rw [h.1]
  exact ⟨rfl, rfl, rfl⟩

theorem keptByAccess_sameStatus : KeptByAccess SameStatus where
  refl _ := ⟨rfl, rfl, rfl⟩
  trans _ _ _ := fun ⟨f1, m1, c1⟩ ⟨f2, m2, c2⟩ => ⟨f2.trans f1, m2.trans m1, c2.trans c1⟩
  read a s := (memRead_keeps a s).sameStatus
  write a v s := (memWrite_keeps a v s).sameStatus

theorem keptBy_sameStatus {p : Part} (h : p ≠ .mark) : KeptBy SameStatus p := by
  cases p with
  | reg r => exact fun s v => ⟨s.setReg_fault r v, s.setReg_mark r v, s.setReg_cycles r v⟩
  | mark => exact absurd rfl h
  | run => exact fun _ _ _ => ⟨rfl, rfl, rfl⟩
  | flags | sp | pc | ime => exact fun _ _ => ⟨rfl, rfl, rfl⟩

/-- Only an unassigned byte writes MARK, and the prefix is none. -/
theorem extendedBody_sameStatus (cb : Byte) : Keeps SameStatus (extendedBody cb) := by
  refine keptByAccess_sameStatus.extendedBody cb fun p hp => keptBy_sameStatus ?_
  rintro rfl
  cases hp

theorem readOperand_completes (h : s.readStop s.hl = none) (o : Operand) :
    ∃ v t, readOperand o s = .ok v t := by
  cases o with
  | reg r => exact ⟨_, _, rfl⟩
  | memHl => exact memRead_of_readStop_none h

theorem ReadKeeps.writeStop (h : ReadKeeps s t) (a : Word) (v : Byte) : t.writeStop a v = s.writeStop a v := by
  rw [h]
  rfl

theorem writeOperand_completes (h : ∀ v, s.writeStop s.hl v = none) (ht : ReadKeeps s t) (o : Operand)
    (v : Byte) : ∃ u, writeOperand o v t = .ok () u := by
  cases o with
  | reg r => exact ⟨_, rfl⟩
  | memHl => exact memWrite_of_writeStop_none (by rw [ht.writeStop, ht.hl, h])

theorem extendedBody_completes (hread : s.readStop s.hl = none) (hwrite : ∀ v, s.writeStop s.hl v = none)
    (cb : Byte) : ∃ t, extendedBody cb s = .ok (extendedCycles (fieldX cb) (Operand.ofCode (fieldZ cb))) t := by
  obtain ⟨v, s1, hr⟩ := readOperand_completes hread (Operand.ofCode (fieldZ cb))
  have hw := writeOperand_completes hwrite (readOperand_ok hr) (Operand.ofCode (fieldZ cb))
  unfold extendedBody
  split
  · obtain ⟨s2, hw⟩ := hw (rotCompute (RotOp.ofCode (fieldY cb)) v (s.flag .carry)).1
    exact ⟨_, taking_of_ok ((rotateOperand_of_read hr rfl).trans (Exec.bind_of_ok hw))⟩
  · exact ⟨_, taking_of_ok (Exec.bind_of_ok hr)⟩
  · obtain ⟨s2, hw⟩ := hw (v &&& ~~~bitMask (fieldY cb))
    exact ⟨s2, taking_of_ok ((Exec.bind_of_ok hr).trans hw)⟩
  · obtain ⟨s2, hw⟩ := hw (v ||| bitMask (fieldY cb))
    exact ⟨s2, taking_of_ok ((Exec.bind_of_ok hr).trans hw)⟩

theorem exec_prefixCb_completes (hread : s.readStop s.hl = none) (hwrite : ∀ v, s.writeStop s.hl v = none)
    (cb : Byte) :
    ∃ t, exec (.prefixCb cb) s = .next t ∧ t.fault = s.fault ∧ t.mark = s.mark ∧
      t.cycles = s.cycles + extendedCycles (fieldX cb) (Operand.ofCode (fieldZ cb)) := by
  obtain ⟨t, ht⟩ := extendedBody_completes hread hwrite cb
  have hstatus := extendedBody_sameStatus cb s
  rw [ht] at hstatus
  obtain ⟨hfault, hmark, hcycles⟩ := hstatus
  exact ⟨_, complete_of_ok ht, hfault, hmark, congrArg (· + _) hcycles⟩

/-- Settles O59: the prefix and the extended instruction have one pseudocode and the same two bytes, so they
also report the same stop. -/
theorem prefixRunsExtended : Obligations.PrefixRunsExtended := by
  unfold Obligations.PrefixRunsExtended
  intro cb s
  rw [← extendedCycles_fields]
  exact ⟨rfl, encode_decodeExtended cb, exec_prefixCb cb s, fun _ _ => step_of_prefix,
    fun hread hwrite => exec_prefixCb_completes hread hwrite cb⟩

/-! ## The instructions without an access -/

theorem exec_illegal_of_nop {i : Instr} (hi : i ∈ illegalInstrs) (h : s.cfg.illegalOpcode = .nop) :
    exec i s = .next { s with cycles := s.cycles + 4 } :=
  exec_of_ok (exec_illegal hi s) (illegalOpcode_of_nop h)

theorem exec_illegal_of_lock {i : Instr} (hi : i ∈ illegalInstrs) (h : s.cfg.illegalOpcode = .lock) :
    exec i s = .next { s with mark := .locked, cycles := s.cycles + 4 } :=
  exec_of_ok (exec_illegal hi s) (illegalOpcode_of_lock h)

/-- Settles O58: each of these pseudocodes is one update of the state, or none. -/
theorem systemCompletes : Obligations.SystemCompletes := by
  unfold Obligations.SystemCompletes
  refine fun s => ⟨⟨rfl, exec_of_ok (body := pure ()) rfl rfl⟩, ⟨rfl, exec_of_ok (body := haltCore) rfl rfl⟩,
    fun n => ⟨rfl, exec_of_ok (body := stopCore) rfl rfl⟩,
    ⟨rfl, exec_of_ok (body := writeIme false) rfl rfl⟩,
    ⟨rfl, exec_of_ok (body := writeIme true) rfl rfl⟩, fun row hrow => ?_⟩
  have hencode : encode row.1 = [row.2] := by
    revert row
    decide
  have hi : row.1 ∈ illegalInstrs := List.mem_map_of_mem (f := Prod.fst) hrow
  exact ⟨hencode, exec_illegal_of_nop hi, exec_illegal_of_lock hi⟩

end Sys2Proof.Machine
end

section
/-! PROOFS. Which fetch stops (60_exceptions.md R431): a fetch is the read at PC, and moves PC past the byte only
where that read does not stop: O20. -/

namespace Sys2Proof.Machine

variable {s t : State} {why : Stop}

theorem fetch8_of_readStop (h : s.readStop s.pc = some why) : fetch8 s = .error why s :=
  fetch8_of_error (memRead_of_readStop h)

theorem fetch8_of_readStop_none (h : s.readStop s.pc = none) : ∃ v t, fetch8 s = .ok v t := by
  obtain ⟨v, t, hread⟩ := memRead_of_readStop_none h
  exact ⟨v, _, fetch8_of_ok hread⟩

theorem readStop_of_fetch8_error (h : fetch8 s = .error why t) : s.readStop s.pc = some why := by
  cases hstop : s.readStop s.pc with
  | none =>
    obtain ⟨v, u, hfetch⟩ := fetch8_of_readStop_none hstop
    rw [hfetch] at h
    cases h
  | some why' =>
    rw [fetch8_of_readStop hstop] at h
    cases h
    rfl

theorem FetchKeeps.pc {n : Nat} (h : FetchKeeps n s t) : t.pc = s.pc + BitVec.ofNat 16 n := congrArg State.pc h

/-- Settles O20: reads and writes answer what the tables say, and a fetch is the read at PC. -/
theorem accessErrors : Obligations.AccessErrors := by
  unfold Obligations.AccessErrors
  refine fun a v s => ⟨fun _ => memRead_of_readStop, memRead_of_readStop_none, fun _ => memWrite_of_writeStop,
    memWrite_of_writeStop_none, fun _ => fetch8_of_readStop, fun h => ?_⟩
  obtain ⟨x, t, hfetch⟩ := fetch8_of_readStop_none h
  exact ⟨x, t, hfetch, (fetch8_keeps hfetch).pc⟩

end Sys2Proof.Machine
end

section
/-! PROOFS. How an instruction that stops at an access stops (60_exceptions.md R431, R433): nothing but byte
accesses and moves of SP and PC came before, and the stop is one of the tables'. One lemma per shared pseudocode
that makes an access. -/

namespace Sys2Proof.Machine

/-! ## What a stop reports -/

/-- What FAULT may report of a stop (R431, R432): never UnsupportedCartridgeType or InvalidOperand, and the
value of InvalidBankingMode alone. -/
def Stop.Reportable : Stop → Prop
  | .raised kind _ v =>
    (kind = .invalidAddress ∨ kind = .illegalWrite ∨ kind = .invalidBankingMode) ∧
      (v ≠ none ↔ kind = .invalidBankingMode)
  | .refused => True

theorem Stop.reportable_invalidAddress (a : Word) : (Stop.raised .invalidAddress a none).Reportable :=
  ⟨.inl rfl, by decide⟩

theorem Stop.reportable_illegalWrite (a : Word) : (Stop.raised .illegalWrite a none).Reportable :=
  ⟨.inr (.inl rfl), by decide⟩

theorem Stop.reportable_invalidBankingMode (a : Word) (v : Byte) :
    (Stop.raised .invalidBankingMode a (some v)).Reportable :=
  ⟨.inr (.inr rfl), by simp⟩

section Tables

variable {s : State} {a : Word} {v : Byte} {why : Stop}

theorem State.cramStop_eq_some {en : Bool} {bank : Nat} (h : s.cramStop en bank a = some why) :
    why = .raised .invalidAddress a none := by
  unfold State.cramStop at h
  split at h <;> cases h
  rfl

/-- All that the table of read errors holds. -/
theorem State.readStop_eq_some (h : s.readStop a = some why) :
    why = .refused ∨ why = .raised .invalidAddress a none := by
  unfold State.readStop at h
  split at h
  · split at h
    · cases h
    · split at h <;> cases h
      exact .inr rfl
  · split at h
    · split at h
      · cases h; exact .inr rfl
      · exact .inr (State.cramStop_eq_some h)
      · cases h
      · exact .inr (State.cramStop_eq_some h)
      · exact .inr (State.cramStop_eq_some h)
      all_goals cases h; exact .inl rfl
    · split at h <;> cases h
      exact .inr rfl

theorem State.readStop_reportable (h : s.readStop a = some why) : why.Reportable := by
  obtain rfl | rfl := State.readStop_eq_some h
  · trivial
  · exact Stop.reportable_invalidAddress a

theorem State.writeStop_reportable (h : s.writeStop a v = some why) : why.Reportable := by
  unfold State.writeStop at h
  have hcram {en : Bool} {bank : Nat} (h : s.cramStop en bank a = some why) : why.Reportable :=
    State.cramStop_eq_some h ▸ Stop.reportable_invalidAddress a
  split at h
  · split at h
    · cases h; exact Stop.reportable_illegalWrite a
    · split at h <;> cases h
      exact Stop.reportable_invalidBankingMode a v
    · cases h
    · split at h <;> cases h
      trivial
    · cases h
    all_goals cases h; trivial
  · split at h
    · split at h
      · cases h; exact Stop.reportable_illegalWrite a
      · exact hcram h
      · cases h
      · exact hcram h
      · exact hcram h
      all_goals cases h; trivial
    · split at h <;> cases h
      exact Stop.reportable_invalidAddress a

end Tables

/-! ## Computations that stop at an access -/

/-- Only what byte accesses, SP and PC reach is different: every other register, IME, RUN, FAULT, MARK and
CYCLES are as they were. -/
def OnlyAccesses (s t : State) : Prop :=
  t = { s with
    pc := t.pc, sp := t.sp, wram := t.wram, vram := t.vram, oam := t.oam, cram := t.cram, cram2 := t.cram2
    mapper := t.mapper, bootOff := t.bootOff, ioAnswers := t.ioAnswers, ioLog := t.ioLog }

theorem OnlyAccesses.refl (s : State) : OnlyAccesses s s := rfl

theorem OnlyAccesses.trans {s t u : State} (h1 : OnlyAccesses s t) (h2 : OnlyAccesses t u) :
    OnlyAccesses s u := by
  rw [OnlyAccesses, h1] at h2
  exact h2

theorem OnlyAccesses.run {s t : State} (h : OnlyAccesses s t) : t.run = s.run := by rw [h]

theorem OnlyAccesses.fault {s t : State} (h : OnlyAccesses s t) : t.fault = s.fault := by rw [h]

theorem OnlyAccesses.mark {s t : State} (h : OnlyAccesses s t) : t.mark = s.mark := by rw [h]

theorem ReadKeeps.onlyAccesses {s t : State} (h : ReadKeeps s t) : OnlyAccesses s t := by
  rw [h]
  rfl

theorem WriteKeeps.onlyAccesses {s t : State} (h : WriteKeeps s t) : OnlyAccesses s t := by
  rw [h.1]
  rfl

/-- FAULT is as it was, and MARK too unless the core is locked (R437): what every pseudocode that completes
leaves. -/
def LocksAtMost (s t : State) : Prop := t.fault = s.fault ∧ (t.mark = s.mark ∨ t.mark = .locked)

theorem LocksAtMost.refl (s : State) : LocksAtMost s s := ⟨rfl, .inl rfl⟩

theorem LocksAtMost.trans {s t u : State} (h1 : LocksAtMost s t) (h2 : LocksAtMost t u) : LocksAtMost s u := by
  obtain ⟨f1, m1⟩ := h1
  obtain ⟨f2, m2⟩ := h2
  refine ⟨f2.trans f1, ?_⟩
  obtain m2 | m2 := m2
  · exact m1.imp m2.trans m2.trans
  · exact .inr m2

theorem OnlyAccesses.locksAtMost {s t : State} (h : OnlyAccesses s t) : LocksAtMost s t :=
  ⟨h.fault, .inl h.mark⟩

theorem LocksAtMost.setReg (s : State) (r : Reg) (v : Byte) : LocksAtMost s (s.setReg r v) :=
  ⟨s.setReg_fault r v, .inl (s.setReg_mark r v)⟩

theorem LocksAtMost.setPair (s : State) (p : Pair) (v : Word) : LocksAtMost s (s.setPair p v) := by
  cases p <;> exact ⟨rfl, .inl rfl⟩

theorem LocksAtMost.alu (s : State) (op : AluOp) (v : Byte) : LocksAtMost s (s.alu op v) := by
  cases op <;> exact ⟨rfl, .inl rfl⟩

/-- A result that is a value with the two states related, or a reportable stop with accesses only before it. -/
inductive EndsBy {α : Type} (R : State → State → Prop) (s : State) : EStateM.Result Stop State α → Prop where
  | value {v : α} {t : State} : R s t → EndsBy R s (.ok v t)
  | stop {why : Stop} {t : State} : why.Reportable → OnlyAccesses s t → EndsBy R s (.error why t)

theorem EndsBy.imp {α : Type} {R R' : State → State → Prop} {s s' : State} {x : EStateM.Result Stop State α}
    (h : EndsBy R s x) (hs : OnlyAccesses s' s) (hR : ∀ t, R s t → R' s' t) : EndsBy R' s' x := by
  cases h with
  | value h => exact .value (hR _ h)
  | stop hwhy h => exact .stop hwhy (hs.trans h)

theorem EndsBy.bind {α β : Type} {Q R : State → State → Prop} {x : Exec α} {f : α → Exec β} {s : State}
    (hx : EndsBy Q s (x s)) (hf : ∀ v t, Q s t → EndsBy R s (f v t)) : EndsBy R s ((x >>= f) s) := by
  rw [Exec.bind_apply]
  cases hxs : x s with
  | ok v t =>
    rw [hxs] at hx
    cases hx with
    | value h => exact hf v t h
  | error why t =>
    rw [hxs] at hx
    cases hx with
    | stop hwhy h => exact .stop hwhy h

/-- A computation that makes byte accesses and moves SP and PC, and nothing else. -/
def Accesses {α : Type} (x : Exec α) : Prop := ∀ s, EndsBy OnlyAccesses s (x s)

/-- A computation that writes registers and flags only after its last access: where it stops, they are as they
were (R433). -/
def StopsCleanly {α : Type} (x : Exec α) : Prop := ∀ s, EndsBy LocksAtMost s (x s)

namespace Accesses

variable {α β : Type}

theorem pure (v : α) : Accesses (Pure.pure v : Exec α) := fun s => .value (.refl s)

theorem look (f : State → α) : Accesses (look f) := fun s => .value (.refl s)

theorem setSp (f : State → Word) : Accesses (update fun s => s.setSp (f s)) := fun _ => .value rfl

theorem setPc (f : State → Word) : Accesses (update fun s => s.setPc (f s)) := fun _ => .value rfl

theorem bind {x : Exec α} {f : α → Exec β} (hx : Accesses x) (hf : ∀ v, Accesses (f v)) :
    Accesses (x >>= f) :=
  fun s => (hx s).bind fun v t h => (hf v t).imp h fun _ => h.trans

theorem memRead (a : Word) : Accesses (memRead a) := by
  intro s
  cases hstop : s.readStop a with
  | none =>
    obtain ⟨v, t, hread⟩ := memRead_of_readStop_none hstop
    rw [hread]
    exact .value (memRead_ok hread).onlyAccesses
  | some why =>
    rw [memRead_of_readStop hstop]
    exact .stop (State.readStop_reportable hstop) (.refl s)

theorem memWrite (a : Word) (v : Byte) : Accesses (memWrite a v) := by
  intro s
  cases hstop : s.writeStop a v with
  | none =>
    obtain ⟨t, hwrite⟩ := memWrite_of_writeStop_none hstop
    rw [hwrite]
    exact .value (memWrite_ok hwrite).onlyAccesses
  | some why =>
    rw [memWrite_of_writeStop hstop]
    exact .stop (State.writeStop_reportable hstop) (.refl s)

theorem fetch8 : Accesses fetch8 :=
  bind (look _) fun _ => bind (memRead _) fun _ => bind (setPc _) fun _ => pure _

theorem fetchRest (op : Byte) : Accesses (fetchRest op) := by
  unfold Machine.fetchRest
  split
  · exact pure _
  · exact bind fetch8 fun _ => pure _
  · exact bind (bind fetch8 fun _ => bind fetch8 fun _ => pure _) fun _ => pure _
  · exact bind fetch8 fun _ => pure _

theorem pushByte (v : Byte) : Accesses (pushByte v) :=
  bind (setSp _) fun _ => bind (look _) fun _ => memWrite _ v

theorem push16 (v : Word) : Accesses (push16 v) := bind (pushByte _) fun _ => pushByte _

theorem popByte : Accesses popByte :=
  bind (look _) fun _ => bind (memRead _) fun _ => bind (setSp _) fun _ => pure _

theorem pop16 : Accesses pop16 := bind popByte fun _ => bind popByte fun _ => pure _

theorem readOperand (o : Operand) : Accesses (readOperand o) := by
  cases o with
  | reg r => exact look _
  | memHl => exact bind (look _) fun _ => memRead _

theorem storeTo (f : State → Word) (g : State → Byte) : Accesses (storeTo f g) :=
  bind (look f) fun _ => bind (look g) fun _ => memWrite _ _

theorem call (a : Word) : Accesses (call a) :=
  bind (look _) fun _ => bind (push16 _) fun _ => setPc _

theorem storeSp (a : Word) : Accesses (storeSp a) :=
  bind (look _) fun _ => bind (memWrite _ _) fun _ => memWrite _ _

theorem pushPair (p : StackPair) : Accesses (pushPair p) := bind (look _) fun _ => push16 _

theorem return16 : Accesses return16 := bind pop16 fun _ => setPc _

variable {s t : State} {x : Exec α}

theorem of_error {why : Stop} (hx : Accesses x) (h : x s = .error why t) :
    why.Reportable ∧ OnlyAccesses s t := by
  have hends := hx s
  rw [h] at hends
  cases hends with
  | stop hwhy h => exact ⟨hwhy, h⟩

theorem of_ok {v : α} (hx : Accesses x) (h : x s = .ok v t) : OnlyAccesses s t := by
  have hends := hx s
  rw [h] at hends
  cases hends with
  | value h => exact h

theorem stopsCleanly (h : Accesses x) : StopsCleanly x :=
  fun s => (h s).imp (.refl s) fun _ => OnlyAccesses.locksAtMost

end Accesses

namespace StopsCleanly

variable {α β : Type}

theorem update {f : State → State} (h : ∀ s, LocksAtMost s (f s)) : StopsCleanly (update f) :=
  fun s => .value (h s)

/-- Accesses may come before. -/
theorem bind {x : Exec α} {f : α → Exec β} (hx : Accesses x) (hf : ∀ v, StopsCleanly (f v)) :
    StopsCleanly (x >>= f) :=
  fun s => (hx s).bind fun v t h => (hf v t).imp h fun _ => h.locksAtMost.trans

/-- What never stops may come after. -/
theorem bind_value {x : Exec α} {f : α → Exec β} (hx : StopsCleanly x)
    (hf : ∀ v s, ∃ w t, f v s = .ok w t ∧ LocksAtMost s t) : StopsCleanly (x >>= f) := by
  refine fun s => (hx s).bind fun v t h => ?_
  obtain ⟨w, u, hfv, hu⟩ := hf v t
  rw [hfv]
  exact .value (h.trans hu)

theorem bind_update {x : Exec α} {g : α → State → State} (hx : StopsCleanly x)
    (hg : ∀ v s, LocksAtMost s (g v s)) : StopsCleanly (x >>= fun v => Machine.update (g v)) :=
  hx.bind_value fun v s => ⟨_, _, rfl, hg v s⟩

theorem taking {n : Nat} {body : Exec Unit} (h : StopsCleanly body) : StopsCleanly (taking n body) :=
  h.bind_value fun _ s => ⟨_, s, rfl, .refl s⟩

theorem branch {cc : Cond} {n m : Nat} {body : Exec Unit} (h : StopsCleanly body) :
    StopsCleanly (branch cc n m body) :=
  bind (.look _) fun ok => by
    cases ok with
    | true => exact h.taking
    | false => exact (Accesses.pure m).stopsCleanly

/-! ## The shared pseudocodes -/

theorem loadFrom (r : Reg) (f : State → Word) : StopsCleanly (loadFrom r f) :=
  bind (.look f) fun _ => bind (.memRead _) fun v => update fun s => .setReg s r v

theorem loadStep (d : Word) : StopsCleanly (loadStep d) :=
  bind_update (loadFrom .a State.hl) fun _ _ => ⟨rfl, .inl rfl⟩

theorem storeStep (d : Word) : StopsCleanly (storeStep d) :=
  bind (.storeTo State.hl State.a) fun _ => update fun _ => ⟨rfl, .inl rfl⟩

theorem popPair (p : StackPair) : StopsCleanly (popPair p) :=
  bind .pop16 fun _ => update fun _ => by cases p <;> exact ⟨rfl, .inl rfl⟩

theorem aluWith (op : AluOp) (o : Operand) : StopsCleanly (aluWith op o) :=
  bind (.readOperand o) fun v => update fun s => .alu s op v

theorem writeOperand (o : Operand) (v : Byte) : StopsCleanly (writeOperand o v) := by
  cases o with
  | reg r => exact update fun s => .setReg s r v
  | memHl => exact (Accesses.bind (.look _) fun _ => .memWrite _ v).stopsCleanly

theorem incOperand (o : Operand) : StopsCleanly (incOperand o) :=
  bind (.readOperand o) fun _ => bind_update (writeOperand o _) fun _ _ => ⟨rfl, .inl rfl⟩

theorem decOperand (o : Operand) : StopsCleanly (decOperand o) :=
  bind (.readOperand o) fun _ => bind_update (writeOperand o _) fun _ _ => ⟨rfl, .inl rfl⟩

/-- The pseudocode of every extended instruction: the operand is read, and the flags are written after it is
written (43_rotate_shift_bit.md R330). -/
theorem extendedBody (cb : Byte) : StopsCleanly (extendedBody cb) := by
  refine taking ?_
  split
  · exact bind (.readOperand _) fun _ => bind (.look _) fun _ =>
      bind_update (writeOperand _ _) fun _ _ => ⟨rfl, .inl rfl⟩
  · exact bind (.readOperand _) fun _ => update fun _ => ⟨rfl, .inl rfl⟩
  · exact bind (.readOperand _) fun _ => writeOperand _ _
  · exact bind (.readOperand _) fun _ => writeOperand _ _

theorem returnEnable : StopsCleanly returnEnable :=
  bind .return16 fun _ => update fun _ => ⟨rfl, .inl rfl⟩

theorem jump (a : Word) : StopsCleanly (jump a) := (Accesses.setPc _).stopsCleanly

theorem jumpRel (e : Byte) : StopsCleanly (jumpRel e) := (Accesses.setPc _).stopsCleanly

theorem illegalOpcode : StopsCleanly illegalOpcode := by
  intro s
  cases hcfg : s.cfg.illegalOpcode with
  | nop =>
    rw [illegalOpcode_of_nop hcfg]
    exact .value (.refl s)
  | lock =>
    rw [illegalOpcode_of_lock hcfg]
    exact .value ⟨rfl, .inr rfl⟩

end StopsCleanly

end Sys2Proof.Machine
end

section
/-! PROOFS. Every instruction completes a pseudocode that stops cleanly: the decoder's rows, then every
instruction. -/

namespace Sys2Proof.Machine

/-- The instruction completes a pseudocode that stops cleanly. -/
def CompletesCleanly (i : Instr) : Prop := ∃ body, (∀ s, exec i s = complete i body s) ∧ StopsCleanly body

namespace CompletesCleanly

variable {i : Instr}

theorem of {body : Exec Nat} (hx : ∀ s, exec i s = complete i body s) (h : StopsCleanly body) :
    CompletesCleanly i := ⟨body, hx, h⟩

theorem of_taking {n : Nat} {body : Exec Unit} (hx : ∀ s, exec i s = complete i (taking n body) s)
    (h : StopsCleanly body) : CompletesCleanly i := .of hx h.taking

theorem of_accesses {n : Nat} {body : Exec Unit} (hx : ∀ s, exec i s = complete i (taking n body) s)
    (h : Accesses body) : CompletesCleanly i := .of_taking hx h.stopsCleanly

/-- An instruction without an access updates the state and cannot stop. -/
theorem of_update {n : Nat} {f : State → State} (hx : ∀ s, exec i s = complete i (taking n (update f)) s)
    (h : ∀ s, LocksAtMost s (f s)) : CompletesCleanly i := .of_taking hx (.update h)

end CompletesCleanly

/-! ## The decoder's rows -/

theorem completesCleanly_decodeX1 (y z : Octal) : AllOf CompletesCleanly (decodeX1 y z) := by
  unfold decodeX1
  split
  · exact .of_update (exec_ldRegReg _ _) fun s => .setReg s _ _
  · exact .of_taking (exec_ldRegMemHl _) (.loadFrom _ _)
  · exact .of_accesses (exec_ldMemHlReg _) (.storeTo _ _)
  · exact CompletesCleanly.of_update (fun _ => rfl) fun _ => ⟨rfl, .inl rfl⟩

theorem completesCleanly_decodeX0 (y z : Octal) : AllOf CompletesCleanly (decodeX0 y z) := by
  cases z with
  | o0 =>
    cases y with
    | o0 => exact CompletesCleanly.of_accesses (fun _ => rfl) (.pure ())
    | o1 => exact fun a => .of_accesses (fun _ => rfl) (.storeSp a)
    | o2 | o3 => exact fun _ => .of_update (fun _ => rfl) fun _ => ⟨rfl, .inl rfl⟩
    | o4 | o5 | o6 | o7 => exact fun e => .of (exec_jrCond _ e) (.branch (.jumpRel e))
  | o1 =>
    cases y with
    | o0 | o2 | o4 | o6 => exact fun v => .of_update (exec_ldPairD16 _ v) fun s => .setPair s _ v
    | o1 | o3 | o5 | o7 => exact .of_update (exec_addHlPair _) fun _ => ⟨rfl, .inl rfl⟩
  | o2 =>
    cases y with
    | o0 | o2 => exact CompletesCleanly.of_accesses (fun _ => rfl) (.storeTo _ _)
    | o1 | o3 => exact CompletesCleanly.of_taking (fun _ => rfl) (.loadFrom _ _)
    | o4 | o6 => exact CompletesCleanly.of_taking (fun _ => rfl) (.storeStep _)
    | o5 | o7 => exact CompletesCleanly.of_taking (fun _ => rfl) (.loadStep _)
  | o3 =>
    cases y with
    | o0 | o2 | o4 | o6 => exact .of_update (exec_incPair _) fun s => .setPair s _ _
    | o1 | o3 | o5 | o7 => exact .of_update (exec_decPair _) fun s => .setPair s _ _
  | o4 => exact .of_taking (exec_incOperand _) (.incOperand _)
  | o5 => exact .of_taking (exec_decOperand _) (.decOperand _)
  | o6 =>
    cases y with
    | o6 => exact fun v => .of_accesses (fun _ => rfl) (.storeTo _ _)
    | o0 | o1 | o2 | o3 | o4 | o5 | o7 => exact fun v => .of_update (exec_ldRegD8 _ v) fun s => .setReg s _ v
  | o7 => cases y <;> exact CompletesCleanly.of_update (fun _ => rfl) fun _ => ⟨rfl, .inl rfl⟩

theorem completesCleanly_illegal {i : Instr} (h : i ∈ illegalInstrs) : CompletesCleanly i :=
  .of_taking (exec_illegal h) .illegalOpcode

theorem completesCleanly_decodeX3 (y z : Octal) : AllOf CompletesCleanly (decodeX3 y z) := by
  cases z with
  | o0 =>
    cases y with
    | o0 | o1 | o2 | o3 => exact .of (exec_retCond _) (.branch Accesses.return16.stopsCleanly)
    | o4 => exact fun v => .of_accesses (fun _ => rfl) (.storeTo _ _)
    | o6 => exact fun v => .of_taking (fun _ => rfl) (.loadFrom _ _)
    | o5 | o7 => exact fun e => .of_update (fun _ => rfl) fun _ => ⟨rfl, .inl rfl⟩
  | o1 =>
    cases y with
    | o0 | o2 | o4 | o6 => exact .of_taking (exec_pop _) (.popPair _)
    | o1 => exact CompletesCleanly.of_accesses (fun _ => rfl) .return16
    | o3 => exact CompletesCleanly.of_taking (fun _ => rfl) .returnEnable
    | o5 | o7 => exact CompletesCleanly.of_update (fun _ => rfl) fun _ => ⟨rfl, .inl rfl⟩
  | o2 =>
    cases y with
    | o0 | o1 | o2 | o3 => exact fun a => .of (exec_jpCond _ a) (.branch (.jump a))
    | o4 => exact CompletesCleanly.of_accesses (fun _ => rfl) (.storeTo _ _)
    | o5 => exact fun a => .of_accesses (fun _ => rfl) (.storeTo _ _)
    | o6 => exact CompletesCleanly.of_taking (fun _ => rfl) (.loadFrom _ _)
    | o7 => exact fun a => .of_taking (fun _ => rfl) (.loadFrom _ _)
  | o3 =>
    cases y with
    | o0 => exact fun a => .of_update (fun _ => rfl) fun _ => ⟨rfl, .inl rfl⟩
    | o1 => exact fun cb => .of (exec_decodeExtended cb) (.extendedBody cb)
    | o2 | o3 | o4 | o5 => exact completesCleanly_illegal (by decide)
    | o6 | o7 => exact CompletesCleanly.of_update (fun _ => rfl) fun _ => ⟨rfl, .inl rfl⟩
  | o4 =>
    cases y with
    | o0 | o1 | o2 | o3 => exact fun a => .of (exec_callCond _ a) (.branch (Accesses.call a).stopsCleanly)
    | o4 | o5 | o6 | o7 => exact completesCleanly_illegal (by decide)
  | o5 =>
    cases y with
    | o0 | o2 | o4 | o6 => exact .of_accesses (exec_push _) (.pushPair _)
    | o1 => exact fun a => .of_accesses (fun _ => rfl) (.call a)
    | o3 | o5 | o7 => exact completesCleanly_illegal (by decide)
  | o6 => exact fun v => by cases AluOp.ofCode y <;> exact .of_update (fun _ => rfl) fun s => .alu s _ v
  | o7 => exact .of_accesses (exec_rst y) (.call _)

theorem completesCleanly_decodeOp (op : Byte) : AllOf CompletesCleanly (decodeOp op) := by
  unfold decodeOp
  split
  · exact completesCleanly_decodeX0 ..
  · exact completesCleanly_decodeX1 ..
  · exact .of_taking (exec_aluOperand _ _) (.aluWith _ _)
  · exact completesCleanly_decodeX3 ..

/-! ## Every instruction -/

theorem completesCleanly (i : Instr) : CompletesCleanly i := by
  cases hi : i.wellFormed with
  | true => exact (completesCleanly_decodeOp _).of_starts (starts_firstByte hi)
  | false =>
    obtain ⟨cb, rfl⟩ := eq_prefixCb_of_not_wellFormed hi
    exact .of (fun _ => rfl) (.extendedBody cb)

/-- All that an instruction can end in: it completes, or it stops at an access with nothing but accesses before
it. -/
theorem exec_ends (i : Instr) (s : State) :
    (∃ t, exec i s = .next t ∧ LocksAtMost s t) ∨
    ∃ why t, exec i s = .next (stopped i s t why) ∧ why.Reportable ∧ OnlyAccesses s t := by
  obtain ⟨body, hexec, hbody⟩ := completesCleanly i
  have hends := hbody s
  rw [hexec]
  cases hb : body s with
  | ok n t =>
    rw [hb] at hends
    cases hends with
    | value h => exact .inl ⟨_, complete_of_ok hb, h⟩
  | error why t =>
    rw [hb] at hends
    cases hends with
    | stop hwhy h => exact .inr ⟨why, t, complete_of_error hb, hwhy, h⟩

end Sys2Proof.Machine
end

section
/-! PROOFS. How a running step ends (60_exceptions.md R432-R436): it completes, or it stops in its fetch or at an
access of its instruction, with the instruction's address and what was fetched of its opcode: O24. -/

namespace Sys2Proof.Machine

variable {s t : State} {why : Stop} {op : Byte} {i : Instr}

/-! ## What a fetch gives -/

theorem Exec.exists_of_bind_ok {α β : Type} {x : Exec α} {f : α → Exec β} {w : β}
    (h : (x >>= f) s = .ok w t) : ∃ v s1, x s = .ok v s1 ∧ f v s1 = .ok w t := by
  rw [Exec.bind_apply] at h
  cases hx : x s with
  | ok v s1 =>
    rw [hx] at h
    exact ⟨v, s1, rfl, h⟩
  | error why s1 =>
    rw [hx] at h
    cases h

/-- The instruction fetched after a first byte is one that the bytes fetched give. -/
theorem takes_of_fetchRest (h : fetchRest op s = .ok i t) :
    ∃ tail, Takes (decodeOp op) tail i ∧ fetchBytes tail.length s = .ok tail t := by
  unfold fetchRest at h
  generalize decodeOp op = sh at h ⊢
  cases sh with
  | done j =>
    cases h
    exact ⟨[], .done _, rfl⟩
  | imm8 f =>
    obtain ⟨n, s1, h1, h⟩ := Exec.exists_of_bind_ok h
    cases h
    exact ⟨[n], .imm8 f rfl, fetchBytes_cons_ok.mpr ⟨t, h1, rfl⟩⟩
  | imm16 f =>
    obtain ⟨v, s2, h16, h⟩ := Exec.exists_of_bind_ok h
    obtain ⟨lo, s1, h1, h16⟩ := Exec.exists_of_bind_ok h16
    obtain ⟨hi, s3, h2, h16⟩ := Exec.exists_of_bind_ok h16
    cases h
    cases h16
    exact ⟨[lo, hi], .imm16 f rfl,
      fetchBytes_cons_ok.mpr ⟨s1, h1, fetchBytes_cons_ok.mpr ⟨t, h2, rfl⟩⟩⟩
  | extended =>
    obtain ⟨cb, s1, h1, h⟩ := Exec.exists_of_bind_ok h
    cases h
    exact ⟨[cb], .extended rfl, fetchBytes_cons_ok.mpr ⟨t, h1, rfl⟩⟩

/-- What a step has fetched of its opcode where it stops for a reason (R432). -/
inductive Fetched (s : State) (why : Stop) : Option Opcode → Prop where
  | nothing (h : s.readStop s.pc = some why) : Fetched s why none
  | plain {op : Byte} {s1 : State} (h : fetch8 s = .ok op s1)
    (hcb : op = 0xCB#8 → ∃ why' s2, fetch8 s1 = .error why' s2) : Fetched s why (some (.plain op))
  | extended {cb : Byte} {s1 s2 : State} (h : fetch8 s = .ok 0xCB#8 s1) (h2 : fetch8 s1 = .ok cb s2) :
    Fetched s why (some (.extended cb))

theorem fetched_of_fetchRest_error {s1 : State} (h1 : fetch8 s = .ok op s1)
    (h2 : fetchRest op s1 = .error why t) : Fetched s why (some (.plain op)) := by
  refine .plain h1 ?_
  rintro rfl
  cases hcb : fetch8 s1 with
  | ok cb s2 =>
    have hrest : fetchRest 0xCB#8 s1 = .ok (decodeExtended cb) s2 := Exec.bind_of_ok hcb
    rw [hrest] at h2
    cases h2
  | error why' s2 => exact ⟨why', s2, rfl⟩

/-- An instruction that has been fetched reports its own opcode. -/
theorem fetched_opcode {s1 : State} (h1 : fetch8 s = .ok op s1) (h2 : fetchRest op s1 = .ok i t) (why : Stop) :
    Fetched s why (some i.opcode) := by
  obtain ⟨tail, htakes, htail⟩ := takes_of_fetchRest h2
  unfold Instr.opcode
  rw [htakes.encode]
  by_cases hop : op = 0xCB#8
  · subst hop
    rw [decodeOp_0xCB] at htakes
    cases htakes with
    | extended hi =>
      obtain ⟨s2, hcb, -⟩ := fetchBytes_cons_ok.mp htail
      exact .extended h1 hcb
  · simp only [hop, if_false]
    exact .plain h1 fun h => absurd h hop

/-- The address reported for an instruction that has been fetched is where its fetch began. -/
theorem firstByteOf_fetched {s1 : State} (h1 : fetch8 s = .ok op s1) (h2 : fetchRest op s1 = .ok i t) :
    t.firstByteOf i = s.pc := by
  obtain ⟨tail, htakes, htail⟩ := takes_of_fetchRest h2
  have hpc := ((fetch8_keeps h1).succ (fetchBytes_keeps htail)).pc
  rw [State.firstByteOf, hpc, htakes.length, BitVec.add_sub_cancel]

/-! ## The ends of a step -/

/-- How a step from a running state ends: it completes, or it stops at an access. -/
inductive StepEnds (s : State) : State → Prop where
  | completes {t : State} (hfault : t.fault = none) (hmark : t.mark ≠ .refused)
    (hone : t.run = .running ∨ t.mark = .none) : StepEnds s t
  | stops {why : Stop} {u : State} {op : Option Opcode} (hwhy : why.Reportable) (h : OnlyAccesses s u)
    (hop : Fetched s why op) : StepEnds s (u.endRun why s.pc op)

theorem isRunning_iff : s.isRunning = true ↔ s.run = .running ∧ s.fault = none ∧ s.mark = .none := by
  rw [State.isRunning, decide_eq_true_iff]

/-- No instruction writes both RUN and MARK (10_state.md R41, R56). -/
theorem exec_run_or_mark (h : exec i s = .next t) : t.run = s.run ∨ t.mark = s.mark := by
  by_cases hrun : t.run = s.run
  · exact .inl hrun
  · obtain ⟨rfl, -⟩ | ⟨n, rfl, -⟩ := exec_run_changed h hrun
    · cases h
      exact .inr rfl
    · cases h
      exact .inr rfl

/-- A step whose instruction completes has ended in no error and no refusal, as the fetch has not. -/
theorem stepEnds_of_completes {u : State} (hr : s.isRunning = true) (hfetch : OnlyAccesses s u)
    (hexec : exec i u = .next t) (h : LocksAtMost u t) : StepEnds s t := by
  obtain ⟨hrun, hfault, hmark⟩ := isRunning_iff.mp hr
  obtain ⟨f, m⟩ := h
  rw [hfetch.fault, hfault] at f
  rw [hfetch.mark, hmark] at m
  have hone := exec_run_or_mark hexec
  rw [hfetch.run, hrun, hfetch.mark, hmark] at hone
  refine .completes f (fun h => ?_) hone
  rw [h] at m
  obtain m | m := m <;> cases m

/-- All that a step from a running state can end in. -/
theorem step_ends (hr : s.isRunning = true) : ∃ t, step s = .next t ∧ StepEnds s t := by
  cases h1 : fetch8 s with
  | error why s1 =>
    obtain ⟨hwhy, h⟩ := Accesses.fetch8.of_error h1
    exact ⟨_, step_of_fetch_error hr h1, .stops hwhy h (.nothing (readStop_of_fetch8_error h1))⟩
  | ok op s1 =>
    have hfetch1 := Accesses.fetch8.of_ok h1
    cases h2 : fetchRest op s1 with
    | error why s2 =>
      obtain ⟨hwhy, h⟩ := (Accesses.fetchRest op).of_error h2
      exact ⟨_, step_of_fetchRest_error hr h1 h2,
        .stops hwhy (hfetch1.trans h) (fetched_of_fetchRest_error h1 h2)⟩
    | ok i s2 =>
      have hfetch := hfetch1.trans ((Accesses.fetchRest op).of_ok h2)
      rw [step_of_fetched hr h1 h2]
      obtain ⟨t, hexec, h⟩ | ⟨why, t, hexec, hwhy, h⟩ := exec_ends i s2
      · exact ⟨t, hexec, stepEnds_of_completes hr hfetch hexec h⟩
      · refine ⟨_, hexec, ?_⟩
        rw [stopped, firstByteOf_fetched h1 h2]
        exact .stops hwhy (hfetch.trans h) (fetched_opcode h1 h2 why)

/-! ## The report -/

theorem OnlyAccesses.endRun {u : State} {pc : Word} {o : Option Opcode} (h : OnlyAccesses s t)
    (hu : u = t.endRun why pc o) :
    u = { s with
      pc := u.pc, sp := u.sp, wram := u.wram, vram := u.vram, oam := u.oam, cram := u.cram
      cram2 := u.cram2, mapper := u.mapper, bootOff := u.bootOff, ioAnswers := u.ioAnswers
      ioLog := u.ioLog, fault := u.fault, mark := u.mark } := by
  rw [hu, h]
  cases why <;> rfl

/-- An opcode is reported as none where its fetch stops, at the address of the fetch. -/
theorem Fetched.eq_none {o : Option Opcode} (h : Fetched s why o) (hstop : s.readStop s.pc ≠ none) :
    o = none ∧ s.readStop s.pc = some why := by
  cases h with
  | nothing h => exact ⟨rfl, h⟩
  | plain h | extended h =>
    obtain ⟨why', hwhy⟩ := Option.ne_none_iff_exists'.mp hstop
    rw [fetch8_of_readStop hwhy] at h
    cases h

/-- An opcode is reported as its byte, or with the byte after 0xCB where that has been fetched. -/
theorem Fetched.eq_some {o : Option Opcode} {s1 : State} (h : Fetched s why o) (h1 : fetch8 s = .ok op s1) :
    (op ≠ 0xCB#8 → o = some (.plain op)) ∧
    (op = 0xCB#8 → ∀ cb s2, fetch8 s1 = .ok cb s2 → o = some (.extended cb)) := by
  cases h with
  | nothing h =>
    rw [fetch8_of_readStop h] at h1
    cases h1
  | plain h hcb =>
    rw [h] at h1
    cases h1
    refine ⟨fun _ => rfl, fun hop cb s2 h2 => ?_⟩
    obtain ⟨why', s3, hfetch⟩ := hcb hop
    rw [hfetch] at h2
    cases h2
  | extended h hcb =>
    rw [h] at h1
    cases h1
    refine ⟨fun hop => absurd rfl hop, fun _ cb s2 h2 => ?_⟩
    rw [hcb] at h2
    cases h2
    rfl

/-- Settles O24: a step that completes leaves FAULT unset and MARK not refused, and one that stops has made
accesses only and reports the stop, the address of its first byte and the opcode fetched. -/
theorem errorsAreReported : Obligations.ErrorsAreReported := by
  unfold Obligations.ErrorsAreReported
  intro s hr
  obtain ⟨-, hfault, hmark⟩ := isRunning_iff.mp hr
  obtain ⟨t, hstep, hends⟩ := step_ends hr
  refine ⟨t, hstep, ?_⟩
  cases hends with
  | completes hfault hmark =>
    refine ⟨fun h => ?_, fun r hr => ?_⟩
    · obtain h | h := h
      · exact absurd hfault h
      · exact absurd h hmark
    · rw [hfault] at hr
      cases hr
  | @stops why u op hwhy h hop =>
    refine ⟨fun _ => h.endRun rfl, fun r hr => ?_⟩
    cases why with
    | refused =>
      have hnone : u.fault = none := h.fault.trans hfault
      cases hnone.symm.trans hr
    | raised kind a v =>
      cases hr
      obtain ⟨hkind, hvalue⟩ := hwhy
      refine ⟨rfl, Option.some_ne_none a, h.mark.trans hmark, hkind, hvalue, fun hstop => ?_,
        fun op s1 => hop.eq_some⟩
      obtain ⟨hnone, hstop⟩ := hop.eq_none hstop
      refine ⟨hnone, ?_⟩
      obtain h | h := State.readStop_eq_some hstop <;> cases h
      rfl

end Sys2Proof.Machine
end

section
/-! PROOFS. A run ends in one way (60_exceptions.md R450): O28. -/

namespace Sys2Proof.Machine

variable {s t : State}

/-! ## The ending a state tells -/

theorem endingOf_of_fault (h : s.fault ≠ none) : endingOf s = some .error := by rw [endingOf, if_pos h]

theorem endingOf_of_refused (h : s.fault = none) (hmark : s.mark = .refused) : endingOf s = some .refusal := by
  rw [endingOf, if_neg (not_not_intro h), hmark]

theorem endingOf_of_locked (h : s.fault = none) (hmark : s.mark = .locked) : endingOf s = some .lock := by
  rw [endingOf, if_neg (not_not_intro h), hmark]

/-- The ending that RUN alone tells. -/
def RunState.ending : RunState → Option Ending
  | .running => none
  | .halted => some .halt
  | .stopped => some .stop

theorem endingOf_of_run (h : s.fault = none) (hmark : s.mark = .none) : endingOf s = s.run.ending := by
  rw [endingOf, if_neg (not_not_intro h), hmark]
  cases s.run <;> rfl

theorem endingOf_eq_none_iff : endingOf s = none ↔ s.isRunning = true := by
  rw [isRunning_iff]
  by_cases hfault : s.fault = none
  · cases hmark : s.mark with
    | none =>
      rw [endingOf_of_run hfault hmark]
      cases s.run <;> simp [RunState.ending, hfault]
    | refused => simp [endingOf_of_refused hfault hmark]
    | locked => simp [endingOf_of_locked hfault hmark]
  · simp [endingOf_of_fault hfault, hfault]

theorem ending_told (h : s.atMostOneEnding) :
    (endingOf s = some .halt ↔ s.run = .halted) ∧ (endingOf s = some .stop ↔ s.run = .stopped) ∧
    (endingOf s = some .error ↔ s.fault ≠ none) ∧ (endingOf s = some .refusal ↔ s.mark = .refused) ∧
    (endingOf s = some .lock ↔ s.mark = .locked) := by
  obtain ⟨hrun, hone⟩ := h
  by_cases hfault : s.fault = none
  · cases hmark : s.mark with
    | none =>
      rw [endingOf_of_run hfault hmark]
      cases s.run <;> simp [RunState.ending, hfault]
    | refused =>
      have hrun : s.run = .running := hrun.resolve_right (by simp [hmark])
      simp [endingOf_of_refused hfault hmark, hrun, hfault]
    | locked =>
      have hrun : s.run = .running := hrun.resolve_right (by simp [hmark])
      simp [endingOf_of_locked hfault hmark, hrun, hfault]
  · have hmark : s.mark = .none := hone.resolve_left hfault
    have hrun : s.run = .running := hrun.resolve_right (by simp [hfault])
    simp [endingOf_of_fault hfault, hfault, hmark, hrun]

/-! ## Steps -/

theorem StepEnds.atMostOneEnding (hr : s.isRunning = true) (h : StepEnds s t) : t.atMostOneEnding := by
  obtain ⟨hrun, hfault, hmark⟩ := isRunning_iff.mp hr
  cases h with
  | completes hfault _ hone => exact ⟨hone.imp_right fun hmark => ⟨hfault, hmark⟩, .inl hfault⟩
  | @stops why u op hwhy h hop =>
    refine ⟨.inl ((u.endRun_run why s.pc op).trans (h.run.trans hrun)), ?_⟩
    cases why with
    | raised => exact .inr (h.mark.trans hmark)
    | refused => exact .inl (h.fault.trans hfault)

theorem step_atMostOneEnding (hs : s.atMostOneEnding) (h : step s = .next t) : t.atMostOneEnding := by
  cases hr : s.isRunning with
  | true =>
    obtain ⟨u, hstep, hends⟩ := step_ends hr
    rw [hstep] at h
    cases h
    exact hends.atMostOneEnding hr
  | false =>
    rw [step_of_not_running hr] at h
    cases h
    exact hs

/-- Settles O28: a step ends by a write of RUN, a lock or one stop, and an ended run does not step. -/
theorem oneEnding : Obligations.OneEnding := by
  unfold Obligations.OneEnding
  refine ⟨fun image p s h => ?_, fun s t => step_atMostOneEnding, fun s => endingOf_eq_none_iff,
    fun s => ending_told⟩
  obtain ⟨v, -, rfl⟩ := construct_ok h
  exact ⟨⟨.inl rfl, .inl rfl⟩, rfl⟩

end Sys2Proof.Machine
end

section
/-! PROOFS. A state whose run has ended stays as it is (70_reset_and_hazards.md R475): O23. -/

namespace Sys2Proof.Machine

/-! ## Runs of a state that steps to itself -/

section Run

variable {M : Host.Core} {s t : M.State}

theorem run_succ_of_step (h : M.step s = .next t) (n : Nat) : M.run (n + 1) s = M.run n t := by
  rw [Host.Core.run, h]

theorem run_of_step_self (h : M.step s = .next s) (n : Nat) : M.run n s = .next s := by
  induction n with
  | zero => rfl
  | succ n ih => exact (run_succ_of_step h n).trans ih

end Run

/-! ## States whose run has ended -/

theorem isRunning_eq_false_iff {s : State} :
    s.isRunning = false ↔ s.run ≠ .running ∨ s.fault ≠ none ∨ s.mark ≠ .none := by
  rw [← Bool.not_eq_true, isRunning_iff, not_and_or, not_and_or]

/-- Settles O23: a state whose run has ended is not running, so it steps to itself, and so does a run of any
length from it. -/
theorem endedRunsStay : Obligations.EndedRunsStay := by
  unfold Obligations.EndedRunsStay
  intro s hended
  have hstep : step s = .next s := step_of_not_running (isRunning_eq_false_iff.mpr hended)
  exact ⟨hstep, run_of_step_self (M := Sys2Proof.core) hstep⟩

end Sys2Proof.Machine
end

section
/-! PROOFS. The invariant at reset and after every construction (10_state.md R31, R45-R50, R55, 20_memory.md
R141, R142): O10. -/

namespace Sys2Proof.Machine

/-! ## Stores of nibbles -/

theorem Memory.nibbles_iff {m : Memory} :
    Memory.nibbles m = true ↔ ∀ cell ∈ m, cell.2 &&& 0xF0#8 = 0x00#8 := by
  simp only [Memory.nibbles, List.all_eq_true, decide_eq_true_eq]

/-- The low four bits of a byte are a nibble. -/
theorem lowNibble_and_high (v : Byte) : (v &&& 0x0F#8) &&& 0xF0#8 = 0x00#8 := by
  rw [BitVec.and_assoc]
  exact BitVec.and_zero

/-- A store made from a list lists bytes of the list only. -/
theorem Memory.snd_mem_of_mem_ofBytesFrom {i : Nat} {vs : List Byte} {cell : Host.Cell}
    (h : cell ∈ Memory.ofBytesFrom i vs) : cell.2 ∈ vs := by
  induction vs generalizing i with
  | nil => cases h
  | cons v vs ih =>
    rw [Memory.ofBytesFrom] at h
    split at h
    · exact List.mem_cons_of_mem v (ih h)
    · obtain rfl | h := List.mem_cons.mp h
      · exact List.mem_cons_self
      · exact List.mem_cons_of_mem v (ih h)

theorem Memory.snd_mem_of_mem_ofBytes {n : Nat} {vs : List Byte} {cell : Host.Cell}
    (h : cell ∈ Memory.ofBytes n vs) : cell.2 ∈ vs :=
  List.mem_of_mem_take (Memory.snd_mem_of_mem_ofBytesFrom h)

/-! ## The initial contents -/

/-- Only the MBC2 class has cells, and they hold low nibbles (20_memory.md R141). -/
theorem nibbles_initialCram2 (v : Variant) (init : List Byte) :
    Memory.nibbles (initialCram2 v init) = true := by
  cases v with
  | mbc2 =>
    refine Memory.nibbles_iff.mpr fun cell hcell => ?_
    obtain ⟨x, -, hx⟩ := List.mem_map.mp (Memory.snd_mem_of_mem_ofBytes hcell)
    rw [← hx]
    exact lowNibble_and_high x
  | romOnly | mbc1 | mbc3 | mbc5 => rfl

theorem wf_within_ofBytes (n : Nat) (vs : List Byte) :
    Memory.wf (Memory.ofBytes n vs) = true ∧ Memory.within n (Memory.ofBytes n vs) = true :=
  ⟨Memory.wf_ofBytes n vs, Memory.within_ofBytes n vs⟩

theorem wf_within_initialCram2 (v : Variant) (init : List Byte) :
    Memory.wf (initialCram2 v init) = true ∧ Memory.within 0x200 (initialCram2 v init) = true := by
  cases v with
  | mbc2 => exact wf_within_ofBytes _ _
  | romOnly | mbc1 | mbc3 | mbc5 => exact ⟨rfl, rfl⟩

/-- The bank registers at reset are legal (10_state.md R55, 20_memory.md R141, R142). -/
theorem Variant.legal_mapper (v : Variant) : Mapper.legal v.mapper = true := by cases v <;> rfl

theorem constructed_inv (v : Variant) (image : List Byte) (p : Params) : (constructed v image p).Inv := by
  have hstores : (constructed v image p).storesWf :=
    ⟨wf_within_ofBytes _ _, wf_within_ofBytes _ _, wf_within_ofBytes _ _, wf_within_ofBytes _ _,
      wf_within_ofBytes _ _, wf_within_ofBytes _ _, wf_within_initialCram2 v p.initCram⟩
  exact ⟨hstores, BitVec.zero_and, v.legal_mapper, nibbles_initialCram2 v p.initCram⟩

/-- Settles O10: reset by evaluation; a constructed state is the record `constructed`, whose stores are made from
lists and whose bank registers are the variant's reset values. -/
theorem resetHasInvariant : Obligations.ResetHasInvariant := by
  unfold Obligations.ResetHasInvariant
  refine ⟨⟨reset_storesWf, rfl, rfl, rfl⟩, fun image p s h => ?_⟩
  obtain ⟨v, -, rfl⟩ := construct_ok h
  exact constructed_inv v image p

end Sys2Proof.Machine
end

section
/-! PROOFS. Every step keeps the invariant (10_state.md R31, R45-R50, 20_memory.md R141, R142): O25. -/

namespace Sys2Proof.Machine

variable {a : Word} {v : Byte} {s t : State}

/-! ## The bank registers stay legal -/

/-- A bank number with 0 forced to 1 is not 0 (20_memory.md R141, R142). -/
theorem forcedBank_ne_zero {n : Nat} (hn : 0 < n) (v : Byte) :
    BitVec.ofNat n (if v.toNat % 2 ^ n = 0 then 1 else v.toNat % 2 ^ n) ≠ 0#n := by
  rw [← forcedBank_eq]
  split
  next => exact BitVec.one_eq_zero_iff.not.mpr (by omega)
  next h => exact h

/-- Bits 4..0 of a bank number as a number. -/
theorem and_low5_eq_zero_iff (x : BitVec 7) : x &&& 0x1F#7 = 0#7 ↔ x.toNat % 32 = 0 := by
  rw [BitVec.toNat_eq, BitVec.toNat_and]
  exact Eq.congr_left (Nat.and_two_pow_sub_one_eq_mod x.toNat 5)

/-- MBC1: a control write leaves bits 4..0 of ROM_BANK, or writes them with 0 forced to 1 (10_state.md R50,
20_memory.md R111, R112). -/
theorem Mbc1.control_legal {m : Mbc1} (h : m.romBank &&& 0x1F#7 ≠ 0#7) (a : Word) (v : Byte) :
    (m.control a v).romBank &&& 0x1F#7 ≠ 0#7 := by
  by_cases hen : a.toNat ≤ 0x1FFF
  · rw [Mbc1.control_ramEnable m hen]
    exact h
  by_cases hlow : a.toNat ≤ 0x3FFF
  · rw [Mbc1.control_romBank m (by omega), Ne, and_low5_eq_zero_iff, BitVec.toNat_ofNat]
    split <;> omega
  by_cases hup : a.toNat ≤ 0x5FFF
  · cases hmode : m.mode with
    | rom =>
      rw [Ne, and_low5_eq_zero_iff] at h
      rw [Mbc1.control_upper_rom m (by omega) hmode, Ne, and_low5_eq_zero_iff, BitVec.toNat_ofNat]
      omega
    | ram =>
      rw [Mbc1.control_upper_ram m (by omega) hmode]
      exact h
  · rw [Mbc1.control_mode m (by omega)]
    exact h

theorem Mbc2.control_legal {m : Mbc2} (h : m.romBank ≠ 0#4) (a : Word) (v : Byte) :
    (m.control a v).romBank ≠ 0#4 := by
  by_cases ha : a.toNat ≤ 0x3FFF
  · rw [Mbc2.control_low m ha]
    split
    · exact h
    · exact forcedBank_ne_zero (n := 4) (by decide) v
  · rw [Mbc2.control_high m (by omega)]
    exact h

theorem Mbc3.control_legal {m : Mbc3} (h : m.romBank ≠ 0#7) (a : Word) (v : Byte) :
    (m.control a v).romBank ≠ 0#7 := by
  by_cases hen : a.toNat ≤ 0x1FFF
  · rw [Mbc3.control_ramEnable m hen]
    exact h
  by_cases hlow : a.toNat ≤ 0x3FFF
  · rw [Mbc3.control_romBank m (by omega)]
    exact forcedBank_ne_zero (n := 7) (by decide) v
  by_cases hsel : a.toNat ≤ 0x5FFF
  · rw [Mbc3.control_sel m (by omega)]
    exact h
  · rw [Mbc3.control_high m (by omega)]
    exact h

/-- The bank registers after a control write that is performed (20_memory.md R110-R112, R115, R141-R143). -/
def Mapper.control (a : Word) (v : Byte) : Mapper → Mapper
  | .romOnly => .romOnly
  | .mbc1 m => .mbc1 (m.control a v)
  | .mbc2 m => .mbc2 (m.control a v)
  | .mbc3 m => .mbc3 (m.control a v)
  | .mbc5 rumble m => .mbc5 rumble (Mbc5.control rumble m a v)

theorem Mapper.legal_control {x : Mapper} (h : Mapper.legal x = true) (a : Word) (v : Byte) :
    Mapper.legal (x.control a v) = true := by
  cases x with
  | romOnly => rfl
  | mbc1 m => exact decide_eq_true (Mbc1.control_legal (of_decide_eq_true h) a v)
  | mbc2 m => exact decide_eq_true (Mbc2.control_legal (of_decide_eq_true h) a v)
  | mbc3 m => exact decide_eq_true (Mbc3.control_legal (of_decide_eq_true h) a v)
  | mbc5 rumble m => rfl

/-- All that a write to the ROM windows can do: it stops with no effect, or it is a control write. -/
theorem cartWrite_control (ha : a.toNat ≤ 0x7FFF) (v : Byte) (s : State) :
    stateOf (cartWrite a v s) = s ∨
    stateOf (cartWrite a v s) = { s with mapper := s.mapper.control a v } := by
  simp only [cartWrite, ha, if_true]
  split
  next => exact .inl rfl
  next m _ hm =>
    rw [hm]
    split
    · exact .inl rfl
    · exact .inr rfl
  next m hm _ => rw [hm]; exact .inr rfl
  next m hm _ =>
    rw [hm]
    split
    · exact .inl rfl
    · exact .inr rfl
  next r m hm _ => rw [hm]; exact .inr rfl
  next => exact .inl rfl
  next => exact .inl rfl
  next => exact .inl rfl

theorem memWrite_legal (h : Mapper.legal s.mapper = true) (a : Word) (v : Byte) :
    Mapper.legal (stateOf (memWrite a v s)).mapper = true := by
  by_cases ha : a.toNat ≤ 0x7FFF
  · rw [memWrite_cartridge (.inl ha)]
    obtain hs | hs := cartWrite_control ha v s <;> rw [hs]
    · exact h
    · exact Mapper.legal_control h a v
  · rw [memWrite_mapper (by omega)]
    exact h

/-! ## The cells of the MBC2 class stay nibbles -/

/-- A write lists nothing but what the store listed and the byte written. -/
theorem Memory.mem_of_mem_write {m : Memory} {i : Nat} {v : Byte} {cell : Host.Cell}
    (h : cell ∈ Memory.write m i v) : cell ∈ m ∨ cell = (i, v) := by
  induction m with
  | nil =>
    rw [Memory.write] at h
    split at h
    · exact .inl h
    · exact .inr (List.mem_singleton.mp h)
  | cons first m ih =>
    obtain ⟨k, w⟩ := first
    rw [Memory.write] at h
    split at h
    · obtain rfl | h := List.mem_cons.mp h
      · exact .inl List.mem_cons_self
      · exact (ih h).imp_left (List.mem_cons_of_mem _)
    · split at h
      · split at h
        · exact .inl (List.mem_cons_of_mem _ h)
        · exact (List.mem_cons.mp h).symm.imp_left (List.mem_cons_of_mem _)
      · split at h
        · exact .inl h
        · exact (List.mem_cons.mp h).symm

theorem Memory.nibbles_write {m : Memory} (h : Memory.nibbles m = true) (i : Nat) (v : Byte) :
    Memory.nibbles (Memory.write m i (v &&& 0x0F#8)) = true := by
  refine Memory.nibbles_iff.mpr fun cell hcell => ?_
  obtain hold | rfl := Memory.mem_of_mem_write hcell
  · exact Memory.nibbles_iff.mp h cell hold
  · exact lowNibble_and_high v

theorem cramWrite_cram2 (en : Bool) (bank : Nat) (a : Word) (v : Byte) (s : State) :
    (stateOf (cramWrite en bank a v s)).cram2 = s.cram2 := by
  simp only [cramWrite]
  split <;> (try split) <;> rfl

theorem cram2Write_nibbles (h : Memory.nibbles s.cram2 = true) (en : Bool) (a : Word) (v : Byte) :
    Memory.nibbles (stateOf (cram2Write en a v s)).cram2 = true := by
  simp only [cram2Write]
  split
  · exact Memory.nibbles_write h _ v
  · exact h

/-- A control write leaves the cells; above the ROM windows only the MBC2 class writes them (20_memory.md R141). -/
theorem cartWrite_nibbles (h : Memory.nibbles s.cram2 = true) (a : Word) (v : Byte) :
    Memory.nibbles (stateOf (cartWrite a v s)).cram2 = true := by
  by_cases ha : a.toNat ≤ 0x7FFF
  · obtain hs | hs := cartWrite_control ha v s <;> rw [hs] <;> exact h
  · simp only [cartWrite, ha, if_false]
    split
    next => exact h
    next => rw [cramWrite_cram2]; exact h
    next => exact cram2Write_nibbles h _ a v
    next => rw [cramWrite_cram2]; exact h
    next => rw [cramWrite_cram2]; exact h
    next => exact h
    next => exact h
    next => exact h

theorem memWrite_nibbles (h : Memory.nibbles s.cram2 = true) (a : Word) (v : Byte) :
    Memory.nibbles (stateOf (memWrite a v s)).cram2 = true := by
  cases hr : regionOf a with
  | cartRom => rw [memWrite_cartRom v hr]; exact cartWrite_nibbles h a v
  | cartRam => rw [memWrite_cartRam v hr]; exact cartWrite_nibbles h a v
  | vram => rw [memWrite_vram v hr]; exact h
  | wram => rw [memWrite_wram v hr]; exact h
  | echo => rw [memWrite_echo v hr]; exact h
  | oam => rw [memWrite_oam v hr]; exact h
  | unmapped => rw [memWrite_unmapped v hr]; exact h
  | bootStatus => rw [memWrite_bootStatus v hr]; split <;> exact h
  | forwarded => rw [memWrite_forwarded hr]; exact h

/-! ## The invariant along a step -/

/-- The relation of the states of a step: the invariant is not lost. -/
def KeepsInv (s t : State) : Prop := s.Inv → t.Inv

theorem ReadKeeps.keepsInv (h : ReadKeeps s t) : KeepsInv s t := by
  rw [h]
  exact id

theorem WriteKeeps.f_eq (h : WriteKeeps s t) : t.f = s.f := by
  rw [h.1]

theorem memWrite_keepsInv (a : Word) (v : Byte) (s : State) : KeepsInv s (stateOf (memWrite a v s)) := by
  rintro ⟨hstores, hflags, hlegal, hnibbles⟩
  refine ⟨memWrite_storesWf hstores a v, ?_, memWrite_legal hlegal a v, memWrite_nibbles hnibbles a v⟩
  rw [State.flagsLegal, (memWrite_keeps a v s).f_eq]
  exact hflags

theorem keptByAccess_keepsInv : KeptByAccess KeepsInv where
  refl _ := id
  trans _ _ _ h1 h2 := h2 ∘ h1
  read a s := (memRead_keeps a s).keepsInv
  write := memWrite_keepsInv

/-- Every write of F clears bits 3..0 (10_state.md R31). -/
theorem State.flagsLegal_setF (s : State) (v : Byte) : (s.setF v).flagsLegal := by
  rw [State.flagsLegal, State.setF_f, BitVec.and_assoc]
  exact BitVec.and_zero

theorem keptBy_keepsInv (p : Part) : KeptBy KeepsInv p := by
  cases p with
  | reg r => intro s v h; cases r <;> exact h
  | flags => exact fun s v ⟨hstores, _, hcartridge⟩ => ⟨hstores, s.flagsLegal_setF v, hcartridge⟩
  | run => exact fun s v _ h => h
  | mark => exact fun s h => h
  | sp | pc | ime => exact fun s v h => h

/-- Settles O25: byte accesses keep the stores, the bank registers and the cells, a flag write masks F, and every
other write of a step is to a field the invariant does not read. -/
theorem stepKeepsInvariant : Obligations.StepKeepsInvariant := by
  unfold Obligations.StepKeepsInvariant
  intro s t hinv h
  refine keeps_step (R := KeepsInv) keptByAccess_keepsInv (fun _ _ => id) ?_ keptBy_keepsInv h hinv
  intro u why pc op
  cases why <;> exact id

end Sys2Proof.Machine
end
